-- ==== Sys2Proof/Word.lean ====
section
/-! DEFINITION. The widths of the spec's data: bytes on the wire, addresses, element counts, data words and
command words (30_encoding.md R70; 00_scope.md R6, ADDR_W and COUNT_W). -/

namespace Sys2Proof

/-- One byte of a bus transfer, and one byte of the device. -/
abbrev Byte := BitVec 8

/-- A command's address operand, 24 bits, unsigned (R46). -/
abbrev Addr := BitVec 24

/-- A command's element count, 16 bits, unsigned (R73). -/
abbrev Count := BitVec 16

/-- A data word: WDATA, a stream element, the response value. -/
abbrev Data := BitVec 32

/-- A command word CMD80 (R70). -/
abbrev CmdWord := BitVec 80

end Sys2Proof
end

