-- ==== Sys2Proof/Config.lean ====
section
/-! DEFINITION. The fixed parameters of 00_scope.md R6, the constants of R14, and the free values: what the spec
leaves open as 'any value'. The static parameters DIR_OPCODE_MULTI and RANGE_CHECK are fields of State, so that
every statement ranges over them (log 3). -/

namespace Sys2Proof.Config

/-- ADDR3_THRESHOLD_KBIT: three address bytes exactly above it (R6). -/
def addr3ThresholdKbit : Nat := 512

/-- PAGE_SIZE, in bytes (R6). -/
def pageSize : Nat := 32

/-- The largest capacity INIT takes, in kilobits (R6, R75). -/
def capMaxKbit : Nat := 131072

/-- Bytes in one kilobit: 1024 bits (R7, D13). -/
def bytesPerKbit : Nat := 128

/-- DUMMY_TX, the byte sent while reading (R6, R116). -/
def dummyTx : Byte := 0x00

/-- INS_WRMR, Write Mode Register (R14, R80). -/
def insWrmr : Byte := 0x01

/-- INS_WRITE (R14, R80). -/
def insWrite : Byte := 0x02

/-- INS_READ (R14, R80). -/
def insRead : Byte := 0x03

/-- INS_RDMR, Read Mode Register (R14, R80); the CORE never sends it as an instruction (R86). -/
def insRdmr : Byte := 0x05

/-- MODE_BYTE (R14, R81). -/
def modeByte : Byte := 0x00

/-- MODE_SEQ (R14, R81). -/
def modeSeq : Byte := 0x40

/-- MODE_PAGE (R14, R81). -/
def modePage : Byte := 0x80

/-- MODE_HOLD, the bit ORed into a mode byte (R14, R81). -/
def modeHold : Byte := 0x01

/-- How many moves one command can take at most: 13 outside the data phase and at most five for each of at most
65535 elements (R120, R121), rounded up. The run of a command is cut off after this many; none is that long. -/
def maxMoves : Nat := 524288

/-- FREE VALUE. The byte the reference device holds at an address nothing has written since its whole content became
any value for the n-th time; n = 0 is power-up: R62, 'the initial content is any value' (log 5, log 13). -/
opaque unwrittenByte : Nat → Nat → Byte

/-- FREE VALUE. The n-th byte of which the spec says 'any value': DMODE before it is written (R62), a byte received
after BAD (R66), a byte received for write data (R116, U10), device bytes a reset cut off, and, in its bit 0, whether a
cut byte marked the device BAD (R216). Log 6, log 13. -/
opaque freeByte : Nat → Byte

/-- FREE VALUE. The byte of DMEM at an address once the device is marked BAD, at the n-th moment: R66, 'it gives no
value to any received byte or to DMEM' (log 12). -/
opaque lostByte : Nat → Nat → Byte

end Sys2Proof.Config
end

