-- ==== Sys2Proof/Syntax.lean ====
section
/-! DEFINITION. The instruction set: one constructor for each row of spec/opcode_table.json, in the table's order,
and the shape of a read or write command (its KIND, element width and direction, 30_encoding.md R71). -/

namespace Sys2Proof

/-- The commands of CMD80 (30_encoding.md R70 to R76) and the four device instruction bytes (R80). A field the
spec marks 'ignored' (R72) is kept, because CUR latches the whole word (10_state.md R28); a field that must be 0
is no operand. -/
inductive Instr where
  /-- WR8 (R131): address; the byte is WDATA[7:0]. -/
  | wr8 (addr : Addr) (wdata : Data)
  /-- RD8 (R130): address; WDATA is ignored. -/
  | rd8 (addr : Addr) (wdata : Data)
  /-- WR16 (R133): address; the value is WDATA[15:0]. -/
  | wr16 (addr : Addr) (wdata : Data)
  /-- RD16 (R132): address; WDATA is ignored. -/
  | rd16 (addr : Addr) (wdata : Data)
  /-- WR32 (R135): address; the value is WDATA. -/
  | wr32 (addr : Addr) (wdata : Data)
  /-- RD32 (R134): address; WDATA is ignored. -/
  | rd32 (addr : Addr) (wdata : Data)
  /-- WRBLK8 (R141): start address, N; WDATA is ignored. -/
  | wrblk8 (addr : Addr) (count : Count) (wdata : Data)
  /-- RDBLK8 (R140). -/
  | rdblk8 (addr : Addr) (count : Count) (wdata : Data)
  /-- WRBLK16 (R143). -/
  | wrblk16 (addr : Addr) (count : Count) (wdata : Data)
  /-- RDBLK16 (R142). -/
  | rdblk16 (addr : Addr) (count : Count) (wdata : Data)
  /-- WRBLK32 (R145). -/
  | wrblk32 (addr : Addr) (count : Count) (wdata : Data)
  /-- RDBLK32 (R144). -/
  | rdblk32 (addr : Addr) (count : Count) (wdata : Data)
  /-- WRPAGE (R147): start address; WDATA is ignored. -/
  | wrpage (addr : Addr) (wdata : Data)
  /-- RDPAGE (R146). -/
  | rdpage (addr : Addr) (wdata : Data)
  /-- INIT (R155): capacity in kilobits and HOLD_EN. -/
  | init (capKbit : Addr) (hold : Bool)
  /-- reserved_illegal (R158): a word that is not LEGAL, kept whole. -/
  | reservedIllegal (cw : CmdWord)
  /-- DEV.WRMR, 0x01: first byte of a mode-write frame (R63, R107). -/
  | devWrmr
  /-- DEV.WRITE, 0x02: direction byte of a write data frame (R64, R111). -/
  | devWrite
  /-- DEV.READ, 0x03: direction byte of a read data frame (R64, R111). -/
  | devRead
  /-- DEV.RDMR, 0x05: Read Mode Register (R66, R86). -/
  | devRdmr
  deriving DecidableEq, Repr

/-- KIND of a read or write command (R71). -/
inductive Kind where
  | scalar
  | block
  | page
  deriving DecidableEq, Repr

/-- Element width (ESZ of R71): one, two or four bytes. -/
inductive Width where
  | one
  | two
  | four
  deriving DecidableEq, Repr

/-- The shape of a read or write command: KIND, element width, and DIR (true for a read), R71. -/
structure Access where
  kind : Kind
  width : Width
  read : Bool
  deriving DecidableEq, Repr

/-- What the command in flight is, as CHECK sorts it (R119): illegal, INIT, or a read or write command. -/
inductive Cmd where
  | illegal
  | init
  | access (a : Access)
  deriving DecidableEq, Repr

/-- The three access modes of the device (R105, R81). -/
inductive Mode where
  | byte
  | sequential
  | page
  deriving DecidableEq, Repr

/-- A code of one of the spec's two number spaces (30_encoding.md, opening): a command word, or a device
instruction byte. -/
inductive Code where
  | cmd80 (cw : CmdWord)
  | devIns (b : Byte)
  deriving DecidableEq, Repr

/-- Why a code is no instruction. A command word never is: an illegal one is the row reserved_illegal (R78). -/
inductive DecodeError where
  /-- A byte that is none of the four device instruction bytes of R80. -/
  | unknownDeviceByte (b : Byte)
  deriving DecidableEq, Repr

end Sys2Proof
end

