-- ==== Sys2Proof/Decode.lean ====
section
/-! DEFINITION. The decoder of 30_encoding.md R70 to R79 (total on every 80-bit word), the decoder of the device
instruction bytes (R80), and after them the encoder (R88). -/

namespace Sys2Proof

/-- OP = cw[7:0] (R70). -/
def cwOp (cw : CmdWord) : Byte := cw.extractLsb' 0 8

/-- ADDR = cw[31:8] (R70). -/
def cwAddr (cw : CmdWord) : Addr := cw.extractLsb' 8 24

/-- COUNT = cw[47:32] (R70). -/
def cwCount (cw : CmdWord) : Count := cw.extractLsb' 32 16

/-- WDATA = cw[79:48] (R70). -/
def cwWdata (cw : CmdWord) : Data := cw.extractLsb' 48 32

/-- LEGAL(cw), R75, line by line. -/
def legal (cw : CmdWord) : Bool :=
  (((cwOp cw).toNat ≤ 0x05 || cwOp cw == 0x10 || cwOp cw == 0x11) && cwCount cw == 0)
  || (0x08 ≤ (cwOp cw).toNat && (cwOp cw).toNat ≤ 0x0D)
  || (cwOp cw == 0x18 && cwCount cw == 0 && (cwWdata cw).extractLsb' 1 31 == 0
      && 1 ≤ (cwAddr cw).toNat && (cwAddr cw).toNat ≤ Config.capMaxKbit)

/-- The opcode map of R74 on a legal word. A word that is not legal is the row reserved_illegal (R76, R78). -/
def decodeCmd (cw : CmdWord) : Instr :=
  if legal cw then
    if cwOp cw = 0x00 then .wr8 (cwAddr cw) (cwWdata cw)
    else if cwOp cw = 0x01 then .rd8 (cwAddr cw) (cwWdata cw)
    else if cwOp cw = 0x02 then .wr16 (cwAddr cw) (cwWdata cw)
    else if cwOp cw = 0x03 then .rd16 (cwAddr cw) (cwWdata cw)
    else if cwOp cw = 0x04 then .wr32 (cwAddr cw) (cwWdata cw)
    else if cwOp cw = 0x05 then .rd32 (cwAddr cw) (cwWdata cw)
    else if cwOp cw = 0x08 then .wrblk8 (cwAddr cw) (cwCount cw) (cwWdata cw)
    else if cwOp cw = 0x09 then .rdblk8 (cwAddr cw) (cwCount cw) (cwWdata cw)
    else if cwOp cw = 0x0A then .wrblk16 (cwAddr cw) (cwCount cw) (cwWdata cw)
    else if cwOp cw = 0x0B then .rdblk16 (cwAddr cw) (cwCount cw) (cwWdata cw)
    else if cwOp cw = 0x0C then .wrblk32 (cwAddr cw) (cwCount cw) (cwWdata cw)
    else if cwOp cw = 0x0D then .rdblk32 (cwAddr cw) (cwCount cw) (cwWdata cw)
    else if cwOp cw = 0x10 then .wrpage (cwAddr cw) (cwWdata cw)
    else if cwOp cw = 0x11 then .rdpage (cwAddr cw) (cwWdata cw)
    else .init (cwAddr cw) (cw.getLsbD 48)
  else .reservedIllegal cw

/-- The device instruction bytes of R80. -/
def decodeDev (b : Byte) : Option Instr :=
  if b = Config.insWrmr then some .devWrmr
  else if b = Config.insWrite then some .devWrite
  else if b = Config.insRead then some .devRead
  else if b = Config.insRdmr then some .devRdmr
  else none

/-- The decoder over both number spaces: every command word is an instruction (R78); a device byte outside R80 is
rejected by name. -/
def decode : Code → Except DecodeError Instr
  | .cmd80 cw => .ok (decodeCmd cw)
  | .devIns b =>
    match decodeDev b with
    | some i => .ok i
    | none => .error (.unknownDeviceByte b)

/-- A command word from its four fields, {WDATA, COUNT, ADDR, OP} (R70, R88). -/
def cmdWord (wdata : Data) (count : Count) (addr : Addr) (op : Byte) : CmdWord :=
  wdata ++ count ++ addr ++ op

/-- The encoder (R88, OP from R74). An ignored field is encoded as it stands. -/
def encode : Instr → Code
  | .wr8 a w => .cmd80 (cmdWord w 0 a 0x00)
  | .rd8 a w => .cmd80 (cmdWord w 0 a 0x01)
  | .wr16 a w => .cmd80 (cmdWord w 0 a 0x02)
  | .rd16 a w => .cmd80 (cmdWord w 0 a 0x03)
  | .wr32 a w => .cmd80 (cmdWord w 0 a 0x04)
  | .rd32 a w => .cmd80 (cmdWord w 0 a 0x05)
  | .wrblk8 a n w => .cmd80 (cmdWord w n a 0x08)
  | .rdblk8 a n w => .cmd80 (cmdWord w n a 0x09)
  | .wrblk16 a n w => .cmd80 (cmdWord w n a 0x0A)
  | .rdblk16 a n w => .cmd80 (cmdWord w n a 0x0B)
  | .wrblk32 a n w => .cmd80 (cmdWord w n a 0x0C)
  | .rdblk32 a n w => .cmd80 (cmdWord w n a 0x0D)
  | .wrpage a w => .cmd80 (cmdWord w 0 a 0x10)
  | .rdpage a w => .cmd80 (cmdWord w 0 a 0x11)
  | .init c h => .cmd80 (cmdWord (if h then 1 else 0) 0 c 0x18)
  | .reservedIllegal cw => .cmd80 cw
  | .devWrmr => .devIns Config.insWrmr
  | .devWrite => .devIns Config.insWrite
  | .devRead => .devIns Config.insRead
  | .devRdmr => .devIns Config.insRdmr

/-- The command word of an instruction; a device instruction byte has none. -/
def commandWord (i : Instr) : Option CmdWord :=
  match encode i with
  | .cmd80 cw => some cw
  | .devIns _ => none

/-- What the decoder reads from a table row of nbits bits with value w. A row of one byte that is a device
instruction byte is of the device's number space; every other row is a command word whose bits above nbits are 0
(log 11). -/
def decodeTableWord (nbits w : Nat) : Option Instr :=
  if nbits ≤ 8 then
    match decodeDev (BitVec.ofNat 8 w) with
    | some i => some i
    | none => some (decodeCmd (BitVec.ofNat 80 w))
  else if w < 2 ^ 80 then some (decodeCmd (BitVec.ofNat 80 w))
  else none

end Sys2Proof
end

