-- ==== Sys2Proof/Machine/State.lean ====
section
/-! DEFINITION. The machine's state as plain data: every state element of 10_state.md (R22 to R36), the reference
device of 20_memory.md (R62 to R66), what the HOST, the BUS and RESET still have in store (00_scope.md R8), and the
event trace (R10, R11). Then the reasons a step stops, and the state after reset (R38). -/

namespace Sys2Proof.Machine

open Sys2Proof

/-- PH, the sequencer phase (R27). -/
inductive Phase where
  | idle
  | check
  | sel
  | mrcmp
  | mrOpc
  | mrVal
  | mrDesel
  | mrResel
  | dirb
  | addr
  | dataLd
  | dataX
  | dataSt
  | fin
  | rsp
  | reserved
  deriving DecidableEq, Repr

/-- The four response statuses (R185). -/
inductive Status where
  | ok
  | errIllegal
  | errNotInit
  | errRange
  deriving DecidableEq, Repr

/-- The external events (R11). A transfer whose received byte is discarded is `xfer t`, the spec's X(t); one whose
received byte is kept is `xferKeep t r`, the spec's X(t→r). -/
inductive Event where
  | accept (cw : CmdWord)
  | sel
  | desel
  | xfer (t : Byte)
  | xferKeep (t r : Byte)
  | wd (e : Data)
  | rd (e : Data)
  | rsp (st : Status) (v : Data)
  | reset
  deriving DecidableEq, Repr

/-- How often the HOST still completes a handshake: always, or this many more times (R220, R223). -/
inductive Ready where
  | always
  | upTo (n : Nat)
  deriving DecidableEq, Repr

/-- The BUS agent: an oracle that gives these received bytes in order and acknowledges no transfer beyond them, or
the reference device, which acknowledges every transfer (R8, R10, R69). -/
inductive Bus where
  | oracle (rx : List Byte)
  | device
  deriving DecidableEq, Repr

/-- The device's bytes that something has written, by address: strictly rising addresses (R62). An address that is
not listed has no written byte. -/
abbrev Memory := List Host.Cell

/-- DMODE: written with a byte, or the n-th free value (R62, R216). -/
inductive ModeReg where
  | unknown (n : Nat)
  | written (b : Byte)
  deriving DecidableEq, Repr

/-- The reference device's frame parser (R62 to R66): no frame open; a frame with no byte yet; the mode byte comes
next; the mode byte is in; address bytes still to come, with the address so far; data byte j comes next; the
register is being read; a frame to which the device gives no meaning (R66, R67). -/
inductive Frame where
  | closed
  | start
  | modeVal
  | modeDone
  | addr (read : Bool) (left : Nat) (a : Nat)
  | data (read : Bool) (a : Nat) (j : Nat)
  | rdmr
  | ignored
  deriving DecidableEq, Repr

/-- The reference device (R62 to R66). -/
structure Device where
  /-- DMEM, as far as it has been written. -/
  mem : Memory
  /-- DMODE. -/
  dmode : ModeReg
  /-- The frame parser. -/
  frame : Frame
  /-- The sticky BAD mark (R66, R202 DEVICE_BAD). -/
  bad : Bool
  /-- The device's true capacity in kilobits, a property of the platform (R222). -/
  capKbit : Nat
  /-- The model's own: the index of the next free value. -/
  draws : Nat
  /-- The model's own: how often the whole content of DMEM became any value since power-up (log 13). -/
  epoch : Nat
  deriving DecidableEq, Repr

/-- The machine. Names follow the spec's; the fields after rspRd are static parameters and environment. -/
structure State where
  /-- CFG_INIT (R22). -/
  cfgInit : Bool
  /-- CFG_CAP_KBIT (R22). -/
  cfgCapKbit : Addr
  /-- CFG_ADDR3 (R22). -/
  cfgAddr3 : Bool
  /-- CFG_HOLD_EN (R22). -/
  cfgHoldEn : Bool
  /-- MC_V (R24). -/
  mcV : Bool
  /-- MC_VAL (R24). -/
  mcVal : Byte
  /-- CS_ACT (R26). -/
  csAct : Bool
  /-- PH (R27). -/
  ph : Phase
  /-- CUR (R28). -/
  cur : CmdWord
  /-- AI (R29). -/
  ai : BitVec 2
  /-- K (R30). -/
  k : BitVec 16
  /-- I (R31). -/
  i : BitVec 2
  /-- ACC (R32). -/
  acc : Data
  /-- EBUF (R33). -/
  ebuf : Data
  /-- M (R34). -/
  m : Byte
  /-- RSP_ST (R35). -/
  rspSt : Status
  /-- RSP_RD (R35). -/
  rspRd : Data
  /-- DIR_OPCODE_MULTI, static: no step writes it (R36). -/
  dirOpcodeMulti : Bool
  /-- RANGE_CHECK, static: no step writes it (R36). -/
  rangeCheck : Bool
  /-- The command words the HOST offers, in order: cmd_valid is 'not empty', cmd_word the first (R9, R220). -/
  cmdIn : List CmdWord
  /-- The write-data elements the HOST offers, in order: wd_valid is 'not empty', wd_data the first (R9, R221). -/
  wdIn : List Data
  /-- rd_ready: how many read elements the HOST still takes (R9, R223). -/
  rdReady : Ready
  /-- rsp_ready: how many responses the HOST still takes (R9, R223). -/
  rspReady : Ready
  /-- The BUS agent (R8). -/
  bus : Bus
  /-- The reference device (R62). -/
  dev : Device
  /-- The model's own: bytes given to the reference device by hand, outside any command (log 10). -/
  wire : List Byte
  /-- The model's own: the bytes the reference device returned for those, oldest first (log 10). -/
  wireOut : List Byte
  /-- RESET: after how many more moves the RESET agent asserts reset; none is never (R8, R215). -/
  resetIn : Option Nat
  /-- The events so far, oldest first (R10, R11). -/
  trace : List Event
  deriving DecidableEq, Repr

/-- Why the machine stops. No run from a state of the invariant reaches one of these (R121). -/
inductive Fault where
  /-- UNREACHABLE_PHASE (R121, R202): raised by the phase FSM when PH = 15. Safe: the spec names this fault. -/
  | unreachablePhase
  /-- Raised by the phase FSM where no row of R120 applies: a counter beyond the range R121 gives it, or a phase
  after CHECK with no read or write command latched. Safe: the machine stops where the spec has no row. -/
  | unreachableState
  deriving DecidableEq, Repr

/-- Why an instruction has no meaning. -/
inductive Refusal where
  /-- An instruction the model gives no meaning yet, by its mnemonic: raised by exec's arm alone. Safe: it stops. -/
  | notModelled (mnemonic : String)
  deriving DecidableEq, Repr

/-- The reference device at power-up: any content, any mode (R62), no frame, no BAD mark. -/
def Device.powerUp (capKbit : Nat) : Device where
  mem := []
  dmode := .unknown 0
  frame := .closed
  bad := false
  capKbit := capKbit
  draws := 1
  epoch := 0

/-- The machine right after reset: every state element at its value of R38; the static parameters at the spec's
defaults (R6); nothing offered, and the reference device attached at power-up (log 4, 7, 8, 9). -/
def State.reset : State where
  cfgInit := false
  cfgCapKbit := 0
  cfgAddr3 := false
  cfgHoldEn := false
  mcV := false
  mcVal := 0x00
  csAct := false
  ph := .idle
  cur := 0
  ai := 0
  k := 0
  i := 0
  acc := 0
  ebuf := 0
  m := 0x00
  rspSt := .ok
  rspRd := 0
  dirOpcodeMulti := true
  rangeCheck := true
  cmdIn := []
  wdIn := []
  rdReady := .always
  rspReady := .always
  bus := .device
  dev := Device.powerUp 256
  wire := []
  wireOut := []
  resetIn := none
  trace := []

end Sys2Proof.Machine
end

