-- ==== Sys2Proof/Machine/Operands.lean ====
section
/-! DEFINITION. Operand forms: the fields of the latched command (R28, R73), bytes of a data word and of an address
(R49, R50), element width and count (R115), requested mode (R105, R106), direction byte (R110, R111), address frame
width (R46, R112) and the range test (R189). -/

namespace Sys2Proof.Machine

open Sys2Proof

/-- CUR_ADDR (R28). -/
def State.curAddr (s : State) : Addr := cwAddr s.cur

/-- CUR_COUNT (R28). -/
def State.curCount (s : State) : Count := cwCount s.cur

/-- CUR_WDATA (R28). -/
def State.curWdata (s : State) : Data := cwWdata s.cur

/-- Byte j of a data word: v[8j+7:8j] (R50). -/
def byteOf (v : Data) (j : Nat) : Byte := v.extractLsb' (8 * j) 8

/-- v with byte j replaced: v[8j+7:8j] <- b (R32). -/
def setByte (v : Data) (j : Nat) (b : Byte) : Data :=
  (v &&& ~~~((0xFF : Data) <<< (8 * j))) ||| (b.setWidth 32 <<< (8 * j))

/-- zext_32(v[8n-1:0]): the low n bytes of a data word (R117). -/
def lowBytes (v : Data) (n : Nat) : Data := (v.setWidth (8 * n)).setWidth 32

/-- Byte j of an address: a[8j+7:8j] (R49). -/
def addrByte (a : Addr) (j : Nat) : Byte := a.extractLsb' (8 * j) 8

/-- The bytes b0, b1, ... of a list as one word, b0 least significant (R50). -/
def packLE : List Byte → Data
  | [] => 0
  | b :: rest => (packLE rest <<< 8) ||| b.setWidth 32

/-- The low n bytes of a word, least significant first (R50). -/
def unpackLE (v : Data) (n : Nat) : List Byte := (List.range n).map (byteOf v)

/-- The element width in bytes (R73). -/
def widthBytes : Width → Nat
  | .one => 1
  | .two => 2
  | .four => 4

/-- E, the element size in bytes (R115). A page's element has one byte, whatever ESZ is (R73). -/
def elemBytes (a : Access) : Nat :=
  match a.kind with
  | .page => 1
  | .scalar => widthBytes a.width
  | .block => widthBytes a.width

/-- NE, the element count (R115). -/
def elemCount (a : Access) (cw : CmdWord) : Nat :=
  match a.kind with
  | .scalar => 1
  | .block => (cwCount cw).toNat
  | .page => Config.pageSize

/-- NBYTES = NE × E (R115). -/
def byteCount (a : Access) (cw : CmdWord) : Nat := elemCount a cw * elemBytes a

/-- The mode a command asks for (R105): BYTE for one-byte scalars, PAGE for pages, SEQUENTIAL for the rest, a
block of one byte among them. -/
def modeOf (a : Access) : Mode :=
  match a.kind, a.width with
  | .page, _ => .page
  | .scalar, .one => .byte
  | .scalar, .two => .sequential
  | .scalar, .four => .sequential
  | .block, _ => .sequential

/-- The base mode byte of R105. -/
def modeCode : Mode → Byte
  | .byte => Config.modeByte
  | .sequential => Config.modeSeq
  | .page => Config.modePage

/-- The requested mode byte, MODE_OF | zext_8(CFG_HOLD_EN) (R106). -/
def requestedMode (a : Access) (hold : Bool) : Byte :=
  modeCode (modeOf a) ||| (if hold then Config.modeHold else 0)

/-- USES_DIR (R110): RD8 and WR8 always, the others when DIR_OPCODE_MULTI = 1. -/
def usesDir (a : Access) (dirOpcodeMulti : Bool) : Bool :=
  (a.kind == .scalar && a.width == .one) || dirOpcodeMulti

/-- The direction byte (R111). -/
def dirByte (a : Access) : Byte := if a.read then Config.insRead else Config.insWrite

/-- ABYTES of an address frame: 3 when ADDR3 = 1, else 2 (R7). -/
def addrBytes (addr3 : Bool) : Nat := if addr3 then 3 else 2

/-- ADDR3 of a capacity in kilobits: capacity above 512 Kbit (R7, R22). -/
def addr3Of (capKbit : Nat) : Bool := decide (Config.addr3ThresholdKbit < capKbit)

/-- CAP_BYTES of a capacity in kilobits (R7). -/
def capBytes (capKbit : Nat) : Nat := capKbit * Config.bytesPerKbit

/-- The address as the frame carries it: cut to ABYTES bytes (R46, R114). -/
def sentAddr (addr3 : Bool) (a : Addr) : Nat := a.toNat % 256 ^ addrBytes addr3

/-- The bytes of the address frame in wire order (R82, R112). -/
def addrFrame (addr3 : Bool) (a : Addr) : List Byte :=
  if addr3 then [addrByte a 2, addrByte a 1, addrByte a 0] else [addrByte a 1, addrByte a 0]

/-- IN_RANGE (R189), in exact arithmetic: a page checks its start only. -/
def inRange (a : Access) (cw : CmdWord) (capKbit : Nat) : Bool :=
  match a.kind with
  | .page => decide ((cwAddr cw).toNat < capBytes capKbit)
  | .scalar => decide ((cwAddr cw).toNat + byteCount a cw ≤ capBytes capKbit)
  | .block => decide ((cwAddr cw).toNat + byteCount a cw ≤ capBytes capKbit)

/-- The shape of an instruction that reads or writes the device (R71, R74). -/
def accessOf : Instr → Option Access
  | .wr8 _ _ => some ⟨.scalar, .one, false⟩
  | .rd8 _ _ => some ⟨.scalar, .one, true⟩
  | .wr16 _ _ => some ⟨.scalar, .two, false⟩
  | .rd16 _ _ => some ⟨.scalar, .two, true⟩
  | .wr32 _ _ => some ⟨.scalar, .four, false⟩
  | .rd32 _ _ => some ⟨.scalar, .four, true⟩
  | .wrblk8 _ _ _ => some ⟨.block, .one, false⟩
  | .rdblk8 _ _ _ => some ⟨.block, .one, true⟩
  | .wrblk16 _ _ _ => some ⟨.block, .two, false⟩
  | .rdblk16 _ _ _ => some ⟨.block, .two, true⟩
  | .wrblk32 _ _ _ => some ⟨.block, .four, false⟩
  | .rdblk32 _ _ _ => some ⟨.block, .four, true⟩
  | .wrpage _ _ => some ⟨.page, .one, false⟩
  | .rdpage _ _ => some ⟨.page, .one, true⟩
  | .init _ _ => none
  | .reservedIllegal _ => none
  | .devWrmr => none
  | .devWrite => none
  | .devRead => none
  | .devRdmr => none

/-- What CHECK takes an instruction for (R119). A device instruction byte is no command. -/
def cmdOf : Instr → Cmd
  | .init _ _ => .init
  | i =>
    match accessOf i with
    | some a => .access a
    | none => .illegal

end Sys2Proof.Machine
end

