-- ==== Sys2Proof/Machine/Flags.lean ====
section
/-! DEFINITION. The only flag the CORE has: the response status (R37, R185), and the order in which CHECK tests for
it (R190). -/

namespace Sys2Proof.Machine

open Sys2Proof

/-- The status code (R185). -/
def statusCode : Status → BitVec 2
  | .ok => 0
  | .errIllegal => 1
  | .errNotInit => 2
  | .errRange => 3

/-- The phase code (R27). -/
def phaseCode : Phase → BitVec 4
  | .idle => 0
  | .check => 1
  | .sel => 2
  | .mrcmp => 3
  | .mrOpc => 4
  | .mrVal => 5
  | .mrDesel => 6
  | .mrResel => 7
  | .dirb => 8
  | .addr => 9
  | .dataLd => 10
  | .dataX => 11
  | .dataSt => 12
  | .fin => 13
  | .rsp => 14
  | .reserved => 15

/-- What CHECK decides: a response at once, the execution of INIT, or the start of the bus transaction (R119). -/
inductive Verdict where
  | respond (st : Status)
  | doInit
  | transact (a : Access)
  deriving DecidableEq, Repr

/-- The conditions of CHECK in the fixed order of R190: illegal, INIT, not initialised, zero count, range. -/
def verdict (c : Cmd) (s : State) : Verdict :=
  if legal s.cur = false then .respond .errIllegal
  else
    match c with
    | .illegal => .respond .errIllegal
    | .init => .doInit
    | .access a =>
      if s.cfgInit = false then .respond .errNotInit
      else if byteCount a s.cur = 0 then .respond .ok
      else if s.rangeCheck = true ∧ inRange a s.cur s.cfgCapKbit.toNat = false then .respond .errRange
      else .transact a

end Sys2Proof.Machine
end

