-- ==== Sys2Proof/Machine/Memory.lean ====
section
/-! DEFINITION. Memory operations over DMEM: reading and writing one byte, in the canonical form 'addresses strictly
rising' (log 5). -/

namespace Sys2Proof.Machine

open Sys2Proof

/-- The byte written last at an address, if something has been written there. -/
def Memory.find : Memory → Nat → Option Byte
  | [], _ => none
  | (a, b) :: rest, x => if a = x then some b else Memory.find rest x

/-- Write one byte, keeping the addresses strictly rising. -/
def Memory.write : Memory → Nat → Byte → Memory
  | [], x, v => [(x, v)]
  | (a, b) :: rest, x, v =>
    if x < a then (x, v) :: (a, b) :: rest
    else if x = a then (x, v) :: rest
    else (a, b) :: Memory.write rest x v

/-- Every listed address is above x. -/
def Memory.above (x : Nat) : Memory → Bool
  | [] => true
  | (a, _) :: rest => decide (x < a) && Memory.above x rest

/-- The canonical form: addresses strictly rising. An unlisted address has no written byte, so no entry can equal
what an unlisted address reads as. -/
def Memory.wf : Memory → Bool
  | [] => true
  | (a, _) :: rest => Memory.above a rest && Memory.wf rest

/-- The device's byte at an address: the byte written last, or, where nothing has been written since the content
became any value, a free value (R62). -/
def Memory.read (epoch : Nat) (mem : Memory) (x : Nat) : Byte :=
  match Memory.find mem x with
  | some b => b
  | none => Config.unwrittenByte epoch x

end Sys2Proof.Machine
end

