-- ==== Sys2Proof/Machine/RefDevice.lean ====
section
/-! DEFINITION. The reference device of 20_memory.md: its address sequence (R65), its frame parser (R62 to R64),
the BAD mark (R66, R67) and what a reset cut leaves in it (R216). -/

namespace Sys2Proof.Machine

open Sys2Proof

/-- CAP_BYTES of the device. -/
def Device.capBytes (d : Device) : Nat := Machine.capBytes d.capKbit

/-- ABYTES of the device (R62). -/
def Device.addrBytes (d : Device) : Nat := Machine.addrBytes (addr3Of d.capKbit)

/-- DMODE as a byte: the byte written last, or a free value (R62, R216). -/
def Device.modeByte (d : Device) : Byte :=
  match d.dmode with
  | .written b => b
  | .unknown n => Config.freeByte n

/-- The mode a mode byte selects, HOLD apart (R63); none is not in the source. -/
def modeOfByte (b : Byte) : Option Mode :=
  if b &&& 0xFE = Config.modeByte then some .byte
  else if b &&& 0xFE = Config.modeSeq then some .sequential
  else if b &&& 0xFE = Config.modePage then some .page
  else none

/-- DADDR(a, j) of R65 for a device of cap bytes; none is BAD. -/
def daddr (mode : Mode) (cap a j : Nat) : Option Nat :=
  match mode with
  | .sequential => some ((a % cap + j) % cap)
  | .page =>
    some ((a % cap - a % cap % Config.pageSize + (a % cap + j) % Config.pageSize) % cap)
  | .byte => if j = 0 then some (a % cap) else none

/-- The device address of data byte j of a frame that starts at a, in the mode DMODE selects. DESIGN CHOICE (log 24): a
DMODE that is any value and happens to be no mode of R63 is found out here, at the first data byte of a frame, and
marks the device BAD only then; R66 names such a value and not the moment. -/
def Device.target (d : Device) (a j : Nat) : Option Nat :=
  match modeOfByte d.modeByte with
  | some mode => daddr mode d.capBytes a j
  | none => none

/-- The next free value. -/
def Device.draw (d : Device) : Byte × Device :=
  (Config.freeByte d.draws, { d with draws := d.draws + 1 })

/-- The sticky BAD mark (R66): from then on every byte of DMEM is any value (log 12). DMODE stays: R66 does not give it
up. -/
def Device.fail (d : Device) : Device := if d.bad then d else { d with bad := true, mem := [] }

/-- The byte the device holds at an address (R62); any value once the device is marked BAD (R66). -/
def Device.read (d : Device) (x : Nat) : Byte :=
  if d.bad then Config.lostByte d.draws x else Memory.read d.epoch d.mem x

/-- SEL: the frame parser restarts (R62). -/
def Device.select (d : Device) : Device := { d with frame := .start }

/-- DMODE becomes any value. -/
def Device.forgetMode (d : Device) : Device :=
  { d with dmode := .unknown d.draws, draws := d.draws + 1 }

/-- A byte whose handshake a reset cut while the device was about to take an instruction or a mode byte: its effect is
any value (R216). So DMODE is, every byte of DMEM is, and so is whether the device is marked BAD (log 13). -/
def Device.cutByte (d : Device) : Device :=
  { d with
    mem := []
    epoch := d.epoch + 1
    bad := d.bad || (Config.freeByte d.draws).getLsbD 0
    dmode := .unknown (d.draws + 1)
    draws := d.draws + 2 }

/-- A data frame without a direction byte (R67), at its first byte t: the device is marked BAD, whatever t is, and gives
the frame no meaning. Where t is the byte a mode-write frame begins with (R63), DMODE is any value, because U3 of
93_implementation_defined.md asks for any value in everything such a frame touches (log 12). -/
def Device.misframe (t : Byte) (d : Device) : Device :=
  match d.frame with
  | .start => { (if t = Config.insWrmr then d.fail.forgetMode else d.fail) with frame := .ignored }
  | _ => d.fail

/-- DESEL: the frame ends. A frame that ends inside its address bytes is BAD (R66). DESIGN CHOICE (log 24): a frame that
ends right after its direction byte, with no address byte sent, counts as one of those. DEDUCED (log 13): a frame that
ends before its mode byte leaves DMODE any value (R216). -/
def Device.deselect (d : Device) : Device :=
  match d.frame with
  | .addr _ _ _ => { d.fail with frame := .closed }
  | .modeVal => { d.forgetMode with frame := .closed }
  | .closed => { d with frame := .closed }
  | .start => { d with frame := .closed }
  | .modeDone => { d with frame := .closed }
  | .data _ _ _ => { d with frame := .closed }
  | .rdmr => { d with frame := .closed }
  | .ignored => { d with frame := .closed }

/-- The first byte of a frame (R63, R64, R66): the device's four instructions; any other byte is BAD. The byte returned
meanwhile is the reference model's 0x00 of R63 and R64 for the first three. DESIGN CHOICE (log 24): it is 0x00 for Read
Mode Register too, for which no rule names it. -/
def Device.instruction (d : Device) (tx : Byte) : Byte × Device :=
  match decodeDev tx with
  | some .devWrmr => (0x00, { d with frame := .modeVal })
  | some .devWrite => (0x00, { d with frame := .addr false d.addrBytes 0 })
  | some .devRead => (0x00, { d with frame := .addr true d.addrBytes 0 })
  | some .devRdmr => (0x00, { d with frame := .rdmr })
  | _ => (d.draw.1, { d.fail.draw.2 with frame := .ignored })

/-- Data byte j of a frame (R64): a read returns the byte at DADDR, a write stores there. -/
def Device.dataByte (d : Device) (read : Bool) (a j : Nat) (tx : Byte) : Byte × Device :=
  match d.target a j with
  | none => d.fail.draw
  | some x =>
    if read then (d.read x, { d with frame := .data read a (j + 1) })
    else
      (d.draw.1,
        { d.draw.2 with mem := Memory.write d.mem x tx, frame := .data read a (j + 1) })

/-- What a byte still does on a device marked BAD: a mode-write frame writes DMODE as before (R63); R66 gives up the
received bytes and DMEM only. -/
def Device.follow (d : Device) (tx : Byte) : Device :=
  match d.frame with
  | .start => { d with frame := if tx = Config.insWrmr then .modeVal else .ignored }
  | .modeVal => { d with dmode := .written tx, frame := .modeDone }
  | .closed => d
  | .modeDone => d
  | .addr _ _ _ => d
  | .data _ _ _ => d
  | .rdmr => d
  | .ignored => d

/-- The mode byte b1 (R63): DMODE <- b1, whatever b1 is; a value that is no mode is BAD. DESIGN CHOICE (log 24): the
byte returned while such a value is sent is a free value already, where the reference model of R63 returns 0x00 and R66 frees
the received bytes from the mark on. -/
def Device.modeWrite (d : Device) (b1 : Byte) : Byte × Device :=
  match modeOfByte b1 with
  | some _ => (0x00, { d with dmode := .written b1, frame := .modeDone })
  | none => (d.draw.1, { d.fail.draw.2 with dmode := .written b1, frame := .modeDone })

/-- One byte transfer as the device sees it: the byte it returns and its next state. Once the device is marked BAD the
returned byte is a free value (R66). DESIGN CHOICE (log 24): so is the byte of the transfer that itself sets the mark, a
byte after the mode byte among them. -/
def Device.byte (d : Device) (tx : Byte) : Byte × Device :=
  if d.bad then (d.draw.1, d.draw.2.follow tx)
  else
    match d.frame with
    | .closed => d.draw
    | .start => d.instruction tx
    | .modeVal => d.modeWrite tx
    | .modeDone => d.fail.draw
    | .addr read left a =>
      (0x00,
        { d with
          frame :=
            if left ≤ 1 then .data read (a * 256 + tx.toNat) 0
            else .addr read (left - 1) (a * 256 + tx.toNat) })
    | .data read a j => d.dataByte read a j tx
    | .rdmr => (d.modeByte, d)
    | .ignored => d.draw

/-- Bytes j, j+1, ..., j+n-1 of a write become any value (R216). -/
def Device.forgetBytes (d : Device) (mode : Mode) (a j : Nat) : Nat → Device
  | 0 => d
  | n + 1 =>
    match daddr mode d.capBytes a j with
    | none => d
    | some x =>
      Device.forgetBytes { d.draw.2 with mem := Memory.write d.mem x d.draw.1 } mode a (j + 1) n

end Sys2Proof.Machine
end

