-- ==== Sys2Proof/Machine/Ops.lean ====
section
/-! DEFINITION. The named operations every command shares: events, chip-select (R100, R101), byte transfers (R13),
the streams (R117), giving a response status and its return (R191, R192), INIT's latch (R155), reset (R215, R216),
and what the machine runs next. -/

namespace Sys2Proof.Machine

open Sys2Proof

/-- Record an external event (R10). -/
def State.emit (s : State) (e : Event) : State := { s with trace := s.trace ++ [e] }

/-- Move to a phase (R27). -/
def State.goto (s : State) (p : Phase) : State := { s with ph := p }

/-- One move passes: the RESET agent's countdown goes down by one (log 9). -/
def State.passTime (s : State) : State := { s with resetIn := s.resetIn.map (· - 1) }

/-- The device as the chip-select line reaches it: only the reference device has one. -/
def State.onDevice (s : State) (f : Device → Device) : State :=
  match s.bus with
  | .oracle _ => s
  | .device => { s with dev := f s.dev }

/-- CS_ASSERT (R100). -/
def csAssert (s : State) : State :=
  if s.csAct then s else ({ s with csAct := true }.onDevice Device.select).emit .sel

/-- CS_DEASSERT (R101). -/
def csDeassert (s : State) : State :=
  if s.csAct then ({ s with csAct := false }.onDevice Device.deselect).emit .desel else s

/-- One byte transfer (R9, R13): the received byte and the next state; none while the BUS does not acknowledge
(R223). -/
def transfer (t : Byte) (s : State) : Option (Byte × State) :=
  match s.bus with
  | .oracle [] => none
  | .oracle (r :: rest) => some (r, { s with bus := .oracle rest })
  | .device => some ((s.dev.byte t).1, { s with dev := (s.dev.byte t).2 })

/-- XFER with the received byte discarded: the event X(t) (R116). -/
def sendByte (t : Byte) (s : State) : Option State :=
  match transfer t s with
  | none => none
  | some (_, s') => some (s'.emit (.xfer t))

/-- XFER with the received byte kept: the event X(t→r) (R116). -/
def recvByte (t : Byte) (s : State) : Option (Byte × State) :=
  match transfer t s with
  | none => none
  | some (r, s') => some (r, s'.emit (.xferKeep t r))

/-- A data frame about to send the byte t, as the reference device takes it: one without a direction byte is BAD (R67),
and so is one whose address has another width than the device's (R222). -/
def checkFrame (a : Access) (t : Byte) (s : State) : State :=
  if usesDir a s.dirOpcodeMulti = false then s.onDevice (Device.misframe t)
  else if addrBytes s.cfgAddr3 ≠ s.dev.addrBytes then s.onDevice Device.fail
  else s

/-- One more handshake of the HOST (R223). -/
def Ready.take : Ready → Option Ready
  | .always => some .always
  | .upTo 0 => none
  | .upTo (n + 1) => some (.upTo n)

/-- WD_POP (R13, R117): takes one write-data element; none while the HOST offers none. -/
def takeElement (s : State) : Option (Data × State) :=
  match s.wdIn with
  | [] => none
  | e :: rest => some (e, { s with wdIn := rest }.emit (.wd e))

/-- RD_PUSH (R13, R117): delivers one read-data element; none while the HOST does not take it. -/
def giveElement (e : Data) (s : State) : Option State :=
  match s.rdReady.take with
  | none => none
  | some r => some ({ s with rdReady := r }.emit (.rd e))

/-- CHECK ends a command with a status: RSP_ST <- st, RSP_RD <- 0, PH <- RSP, and nothing else (R191). This is the
CORE's exception entry: an error is a response status. -/
def respond (st : Status) (s : State) : State :=
  { s with rspSt := st, rspRd := 0, ph := .rsp }

/-- The return (R192): the HOST takes the response and the CORE is idle; none while the HOST does not take it. -/
def giveResponse (s : State) : Option State :=
  match s.rspReady.take with
  | none => none
  | some r => some ({ s with rspReady := r, ph := .idle }.emit (.rsp s.rspSt s.rspRd))

/-- ACCEPT (R120, R122): CUR <- cw, PH <- CHECK. -/
def accept (cw : CmdWord) (s : State) : State :=
  ({ s with cur := cw, ph := .check }.emit (.accept cw)).passTime

/-- DO_INIT (R155). -/
def doInit (s : State) : State :=
  csDeassert
    { s with
      cfgCapKbit := s.curAddr
      cfgAddr3 := addr3Of s.curAddr.toNat
      cfgHoldEn := s.curWdata.getLsbD 0
      cfgInit := true
      mcV := false
      mcVal := 0x00 }

/-- How many data bytes of the write command in flight have gone to the device, while its frames are open; none
when no write is under way (R216). -/
def bytesSent (a : Access) (s : State) : Option Nat :=
  match s.ph with
  | .sel => some 0
  | .mrcmp => some 0
  | .mrOpc => some 0
  | .mrVal => some 0
  | .mrDesel => some 0
  | .mrResel => some 0
  | .dirb => some 0
  | .addr => some 0
  | .dataLd => some (s.k.toNat * elemBytes a + s.i.toNat)
  | .dataX => some (s.k.toNat * elemBytes a + s.i.toNat)
  | .idle => none
  | .check => none
  | .dataSt => none
  | .fin => none
  | .rsp => none
  | .reserved => none

/-- Is a byte of the command in flight about to be sent, its handshake not completed (R39)? -/
def bytePending (p : Phase) : Bool :=
  p == .mrOpc || p == .mrVal || p == .dirb || p == .addr || p == .dataX

/-- A byte whose handshake a reset cut has any effect on the device (R216). Where the device was about to take an
instruction or a mode byte, that is any DMODE, any DMEM and BAD or not. Cut inside the address the frame is BAD anyway
(R66); a cut data byte of a write is among the bytes cutWrite loses; one of a read changes nothing (R55; log 13). -/
def cutInstruction (s : State) (d : Device) : Device :=
  if bytePending s.ph = true ∧ (d.frame = .start ∨ d.frame = .modeVal) then d.cutByte else d

/-- The bytes of a cut write command are any value from the cut onward (R216); on a device marked BAD they all are
(R66). -/
def cutWrite (s : State) (d : Device) : Device :=
  match accessOf (decodeCmd s.cur) with
  | none => d
  | some a =>
    if a.read || d.bad then d
    else
      match bytesSent a s with
      | none => d
      | some j =>
        d.forgetBytes (modeOf a) (sentAddr s.cfgAddr3 s.curAddr) j (byteCount a s.cur - j)

/-- What a reset leaves in the reference device: the cut, then the end of the open frame (R215, R216). -/
def cutDevice (s : State) (d : Device) : Device :=
  if s.csAct then (cutWrite s (cutInstruction s d)).deselect else cutWrite s (cutInstruction s d)

/-- Reset (R215): every state element of R38 at its reset value, DESEL if chip-select was asserted, no response.
The static parameters and the other agents stay; the reset request is used up. -/
def coreReset (s : State) : State :=
  { State.reset with
    dirOpcodeMulti := s.dirOpcodeMulti
    rangeCheck := s.rangeCheck
    cmdIn := s.cmdIn
    wdIn := s.wdIn
    rdReady := s.rdReady
    rspReady := s.rspReady
    bus := s.bus
    dev := (s.onDevice (cutDevice s)).dev
    wire := s.wire
    wireOut := s.wireOut
    resetIn := none
    trace := s.trace ++ (.reset :: if s.csAct then [.desel] else []) }

/-- A byte given to the reference device by hand (log 10): one transfer that is no event of the CORE (R10); the
byte the device returns is kept. -/
def handByte (t : Byte) (s : State) : State :=
  { s with dev := (s.dev.byte t).2, wireOut := s.wireOut ++ [(s.dev.byte t).1] }

/-- What the machine runs next, and on which state: a device instruction byte at the start of a frame given by
hand; else the command in flight; else, idle, the first command word the HOST offers. None when there is no such
instruction. -/
def nextInstr (s : State) : Option (Instr × State) :=
  match s.wire with
  | b :: rest =>
    if s.dev.frame = .start then
      match decodeDev b with
      | some i => some (i, { s with wire := rest })
      | none => none
    else none
  | [] =>
    if s.resetIn = some 0 then none
    else if s.ph = .idle then
      match s.cmdIn with
      | [] => none
      | cw :: rest => some (decodeCmd cw, { s with cmdIn := rest })
    else some (decodeCmd s.cur, s)

/-- A move with no instruction to run: a later byte of a frame given by hand, the reset event, or an idle wait. -/
def quietMove (s : State) : State :=
  match s.wire with
  | b :: rest => handByte b { s with wire := rest }
  | [] => if s.resetIn = some 0 then coreReset s else s.passTime

end Sys2Proof.Machine
end

