-- ==== Sys2Proof/Machine/Sequencer.lean ====
section
/-! DEFINITION. The phase FSM of 40_transaction.md R120, row by row, and the run of one command: its moves, one
after the other, until the CORE is idle again or waits for another agent (R119, R123, R223). -/

namespace Sys2Proof.Machine

open Sys2Proof

/-- One look at the FSM: a move, a wait whose handshake has not completed (R123), or no row. -/
inductive Move where
  | go (s : State)
  | hold
  | stop (f : Fault)
  deriving DecidableEq, Repr

/-- A handshake that has completed moves on; one that has not is a wait. -/
def Move.ofHandshake : Option State → Move
  | some s => .go s
  | none => .hold

/-- AI on entry to ADDR: 2 for three address bytes, else 1 (R29). -/
def firstAddrIndex (addr3 : Bool) : BitVec 2 := if addr3 then 2 else 1

/-- The phase after the mode check: DIRB when the command sends a direction byte, else ADDR (R120). -/
def afterMode (a : Access) (s : State) : Phase := if usesDir a s.dirOpcodeMulti then .dirb else .addr

/-- The CHECK rows (R119, R120, R190). -/
def rowCheck (c : Cmd) (s : State) : State :=
  match verdict c s with
  | .respond st => respond st s
  | .doInit => respond .ok (doInit s)
  | .transact a => { s with m := requestedMode a s.cfgHoldEn, rspRd := 0, ph := .sel }

/-- The MRCMP rows: a cache hit goes to the data frame, a miss to the mode-write frame (R107). -/
def rowMrcmp (a : Access) (s : State) : State :=
  if s.mcV = true ∧ s.mcVal = s.m then
    { s with ai := firstAddrIndex s.cfgAddr3, ph := afterMode a s }
  else s.goto .mrOpc

/-- The MR_VAL row: the mode byte goes out and the cache is updated in the same step (R108). -/
def rowMrVal (s : State) : Option State :=
  match sendByte s.m s with
  | none => none
  | some s' => some { s' with mcV := true, mcVal := s.m, ph := .mrDesel }

/-- The MR_RESEL row: the data frame starts. -/
def rowMrResel (a : Access) (s : State) : State :=
  { csAssert s with ai := firstAddrIndex s.cfgAddr3, ph := afterMode a s }

/-- The DIRB row (R111). -/
def rowDirb (a : Access) (s : State) : Option State :=
  match sendByte (dirByte a) (checkFrame a (dirByte a) s) with
  | none => none
  | some s' => some (s'.goto .addr)

/-- The ADDR rows (R112): the address byte AI, most significant first. -/
def rowAddr (a : Access) (s : State) : Option State :=
  match sendByte (addrByte s.curAddr s.ai.toNat) (checkFrame a (addrByte s.curAddr s.ai.toNat) s) with
  | none => none
  | some s' =>
    if s.ai = 0 then
      some { s' with k := 0, i := 0, acc := 0, ph := if a.read then .dataX else .dataLd }
    else some { s' with ai := s.ai - 1 }

/-- The DATA_LD rows (R117): the write element comes from CUR_WDATA, or from the write-data stream. -/
def rowDataLd (a : Access) (s : State) : Option State :=
  if a.kind = .scalar then some { s with ebuf := s.curWdata, ph := .dataX }
  else
    match takeElement s with
    | none => none
    | some (e, s') => some { s' with ebuf := e, ph := .dataX }

/-- The DATA_X rows of a write (R116, R117): byte I of the element goes out. -/
def rowDataXWrite (a : Access) (s : State) : Option State :=
  match sendByte (byteOf s.ebuf s.i.toNat) (checkFrame a (byteOf s.ebuf s.i.toNat) s) with
  | none => none
  | some s' =>
    if s.i.toNat + 1 < elemBytes a then some { s' with i := s.i + 1 }
    else if s.k.toNat + 1 < elemCount a s.cur then
      some { s' with i := 0, k := s.k + 1, ph := .dataLd }
    else some { s' with i := 0, ph := .fin }

/-- The DATA_X rows of a read (R116, R117): byte I of the element comes in. -/
def rowDataXRead (a : Access) (s : State) : Option State :=
  match recvByte Config.dummyTx (checkFrame a Config.dummyTx s) with
  | none => none
  | some (r, s') =>
    if s.i.toNat + 1 < elemBytes a then
      some { s' with acc := setByte s.acc s.i.toNat r, i := s.i + 1 }
    else if a.kind = .scalar then
      some
        { s' with
          acc := setByte s.acc s.i.toNat r
          rspRd := lowBytes (setByte s.acc s.i.toNat r) (elemBytes a)
          ph := .fin }
    else some { s' with acc := setByte s.acc s.i.toNat r, i := 0, ph := .dataSt }

/-- The DATA_ST rows: the completed element goes to the HOST (R117). -/
def rowDataSt (a : Access) (s : State) : Option State :=
  match giveElement (lowBytes s.acc (elemBytes a)) s with
  | none => none
  | some s' =>
    if s.k.toNat + 1 < elemCount a s.cur then
      some { s' with k := s.k + 1, acc := 0, ph := .dataX }
    else some { s' with acc := 0, ph := .fin }

/-- The FIN row: chip-select is deasserted, the status is OK (R103, R193). -/
def rowFin (s : State) : State := { csDeassert s with rspSt := .ok, ph := .rsp }

/-- The counters are in the ranges of R121. -/
def countersInRange (a : Access) (s : State) : Bool :=
  decide (s.i.toNat < elemBytes a) && decide (s.k.toNat < elemCount a s.cur)

/-- The phase FSM (R120) for the command c in flight. -/
def advance (c : Cmd) (s : State) : Move :=
  match s.ph, c with
  | .idle, _ => .hold
  | .check, _ => .go (rowCheck c s)
  | .sel, .access _ => .go ((csAssert s).goto .mrcmp)
  | .mrcmp, .access a => .go (rowMrcmp a s)
  | .mrOpc, .access _ => .ofHandshake ((sendByte Config.insWrmr s).map (·.goto .mrVal))
  | .mrVal, .access _ => .ofHandshake (rowMrVal s)
  | .mrDesel, .access _ => .go ((csDeassert s).goto .mrResel)
  | .mrResel, .access a => .go (rowMrResel a s)
  | .dirb, .access a => .ofHandshake (rowDirb a s)
  | .addr, .access a => if s.ai = 3 then .stop .unreachableState else .ofHandshake (rowAddr a s)
  | .dataLd, .access a => if a.read then .stop .unreachableState else .ofHandshake (rowDataLd a s)
  | .dataX, .access a =>
    if countersInRange a s then
      .ofHandshake (if a.read then rowDataXRead a s else rowDataXWrite a s)
    else .stop .unreachableState
  | .dataSt, .access a =>
    if a.read = true ∧ a.kind ≠ .scalar ∧ countersInRange a s = true then .ofHandshake (rowDataSt a s)
    else .stop .unreachableState
  | .fin, .access _ => .go (rowFin s)
  | .rsp, _ => .ofHandshake (giveResponse s)
  | .reserved, _ => .stop .unreachablePhase
  | _, .init => .stop .unreachableState
  | _, .illegal => .stop .unreachableState

/-- One move of the machine while a command is in flight (R8): RESET if it is due (R215), else one row of the FSM.
A wait leaves all state as it is, but for the RESET agent's countdown (R123). -/
def tick (c : Cmd) (s : State) : Host.Outcome State Fault Refusal :=
  if s.resetIn = some 0 then .next (coreReset s)
  else
    match advance c s with
    | .go s' => .next s'.passTime
    | .hold => .next s.passTime
    | .stop f => .fault f

/-- Nothing more happens before another agent does something: the CORE is idle, or it waits and no reset is
coming (R223). -/
def halted (c : Cmd) (s : State) : Bool :=
  s.ph == .idle || (s.resetIn == none && advance c s == .hold)

/-- The moves of a command, at most this many. -/
def run : Nat → Cmd → State → Host.Outcome State Fault Refusal
  | 0, _, s => .next s
  | n + 1, c, s =>
    if halted c s then .next s
    else
      match tick c s with
      | .next s' => run n c s'
      | .fault f => .fault f
      | .refused r => .refused r

/-- Enough moves for any command, and for a reset that is still to come. -/
def moveBound (s : State) : Nat := Config.maxMoves + s.resetIn.getD 0

/-- EXECUTE (R119). An idle CORE accepts the word and runs the command; a CORE with this command in flight goes on
with it; a CORE busy with another takes nothing (R122). -/
def execute (cw : CmdWord) (c : Cmd) (s : State) : Host.Outcome State Fault Refusal :=
  if s.ph = .idle then run (moveBound s) c (accept cw s)
  else if s.cur = cw then run (moveBound s) c s
  else .next s

end Sys2Proof.Machine
end

