-- ==== Sys2Proof/Machine/Block.lean ====
section
/-! DEFINITION. The eight block and page commands of 42_block.md: each is EXECUTE (R119) on its own word and shape. A block of
zero elements is a no-op (R148). -/

namespace Sys2Proof.Machine

open Sys2Proof

/-- WRBLK8 (R141): N one-byte elements from the write-data stream, SEQUENTIAL mode. -/
def execWrblk8 (addr : Addr) (count : Count) (wdata : Data) (s : State) : Host.Outcome State Fault Refusal :=
  execute (cmdWord wdata count addr 0x08)
    (.access { kind := .block, width := .one, read := false }) s

/-- RDBLK8 (R140): N one-byte elements to the read-data stream, SEQUENTIAL mode. -/
def execRdblk8 (addr : Addr) (count : Count) (wdata : Data) (s : State) : Host.Outcome State Fault Refusal :=
  execute (cmdWord wdata count addr 0x09)
    (.access { kind := .block, width := .one, read := true }) s

/-- WRBLK16 (R143): N two-byte elements from the write-data stream. -/
def execWrblk16 (addr : Addr) (count : Count) (wdata : Data) (s : State) : Host.Outcome State Fault Refusal :=
  execute (cmdWord wdata count addr 0x0A)
    (.access { kind := .block, width := .two, read := false }) s

/-- RDBLK16 (R142): N two-byte elements to the read-data stream. -/
def execRdblk16 (addr : Addr) (count : Count) (wdata : Data) (s : State) : Host.Outcome State Fault Refusal :=
  execute (cmdWord wdata count addr 0x0B)
    (.access { kind := .block, width := .two, read := true }) s

/-- WRBLK32 (R145): N four-byte elements from the write-data stream. -/
def execWrblk32 (addr : Addr) (count : Count) (wdata : Data) (s : State) : Host.Outcome State Fault Refusal :=
  execute (cmdWord wdata count addr 0x0C)
    (.access { kind := .block, width := .four, read := false }) s

/-- RDBLK32 (R144): N four-byte elements to the read-data stream. -/
def execRdblk32 (addr : Addr) (count : Count) (wdata : Data) (s : State) : Host.Outcome State Fault Refusal :=
  execute (cmdWord wdata count addr 0x0D)
    (.access { kind := .block, width := .four, read := true }) s

/-- WRPAGE (R147): 32 one-byte elements from the write-data stream, PAGE mode. -/
def execWrpage (addr : Addr) (wdata : Data) (s : State) : Host.Outcome State Fault Refusal :=
  execute (cmdWord wdata 0 addr 0x10)
    (.access { kind := .page, width := .one, read := false }) s

/-- RDPAGE (R146): 32 one-byte elements to the read-data stream, PAGE mode. -/
def execRdpage (addr : Addr) (wdata : Data) (s : State) : Host.Outcome State Fault Refusal :=
  execute (cmdWord wdata 0 addr 0x11)
    (.access { kind := .page, width := .one, read := true }) s

end Sys2Proof.Machine
end

