-- ==== Sys2Proof/Machine/Control.lean ====
section
/-! DEFINITION. The control commands of 43_control.md: INIT and the reserved space. -/

namespace Sys2Proof.Machine

open Sys2Proof

/-- INIT (R155, R157): latches capacity, address width and HOLD_EN, clears the mode cache, sends nothing. A
capacity that is not legal makes the word illegal, and CHECK answers ERR_ILLEGAL with nothing changed. -/
def execInit (capKbit : Addr) (hold : Bool) (s : State) : Host.Outcome State Fault Refusal :=
  execute (cmdWord (if hold then 1 else 0) 0 capKbit 0x18) .init s

/-- reserved_illegal (R158): the response ERR_ILLEGAL, no bus event, nothing else. -/
def execReservedIllegal (cw : CmdWord) (s : State) : Host.Outcome State Fault Refusal :=
  execute cw .illegal s

end Sys2Proof.Machine
end

