-- ==== Sys2Proof/Machine/DeviceIns.lean ====
section
/-! DEFINITION. The four instruction bytes of the device's wire protocol (30_encoding.md R80), as the reference device
takes them: one byte transfer. At the start of a frame the byte is an instruction (R63, R64, R66); later in a frame it
is the mode byte, an address byte or a data byte, as the frame has it. -/

namespace Sys2Proof.Machine

open Sys2Proof

/-- DEV.WRMR, 0x01 (R63, R107): at the start of a frame, the next byte is the new DMODE. -/
def execDevWrmr (s : State) : Host.Outcome State Fault Refusal := .next (handByte Config.insWrmr s)

/-- DEV.WRITE, 0x02 (R64, R111): at the start of a frame, address bytes and then bytes to store follow. -/
def execDevWrite (s : State) : Host.Outcome State Fault Refusal := .next (handByte Config.insWrite s)

/-- DEV.READ, 0x03 (R64, R111): at the start of a frame, address bytes follow, and then DMEM bytes are returned. -/
def execDevRead (s : State) : Host.Outcome State Fault Refusal := .next (handByte Config.insRead s)

/-- DEV.RDMR, 0x05 (R66, R86): at the start of a frame, every later byte of the frame returns DMODE. -/
def execDevRdmr (s : State) : Host.Outcome State Fault Refusal := .next (handByte Config.insRdmr s)

end Sys2Proof.Machine
end

