-- ==== Sys2Proof/Machine/Scalar.lean ====
section
/-! DEFINITION. The six scalar commands of 41_scalar.md: each is EXECUTE (R119) on its own word and shape. -/

namespace Sys2Proof.Machine

open Sys2Proof

/-- WR8 (R131): one byte, BYTE mode, WDATA[7:0] goes out after the direction byte 0x02. -/
def execWr8 (addr : Addr) (wdata : Data) (s : State) : Host.Outcome State Fault Refusal :=
  execute (cmdWord wdata 0 addr 0x00)
    (.access { kind := .scalar, width := .one, read := false }) s

/-- RD8 (R130): one byte, BYTE mode; the byte received is the response value. -/
def execRd8 (addr : Addr) (wdata : Data) (s : State) : Host.Outcome State Fault Refusal :=
  execute (cmdWord wdata 0 addr 0x01)
    (.access { kind := .scalar, width := .one, read := true }) s

/-- WR16 (R133): two bytes of WDATA, least significant first, SEQUENTIAL mode. -/
def execWr16 (addr : Addr) (wdata : Data) (s : State) : Host.Outcome State Fault Refusal :=
  execute (cmdWord wdata 0 addr 0x02)
    (.access { kind := .scalar, width := .two, read := false }) s

/-- RD16 (R132): two bytes, SEQUENTIAL mode; the response value is {b1, b0}. -/
def execRd16 (addr : Addr) (wdata : Data) (s : State) : Host.Outcome State Fault Refusal :=
  execute (cmdWord wdata 0 addr 0x03)
    (.access { kind := .scalar, width := .two, read := true }) s

/-- WR32 (R135): four bytes of WDATA, least significant first, SEQUENTIAL mode. -/
def execWr32 (addr : Addr) (wdata : Data) (s : State) : Host.Outcome State Fault Refusal :=
  execute (cmdWord wdata 0 addr 0x04)
    (.access { kind := .scalar, width := .four, read := false }) s

/-- RD32 (R134): four bytes, SEQUENTIAL mode; the response value is {b3, b2, b1, b0}. -/
def execRd32 (addr : Addr) (wdata : Data) (s : State) : Host.Outcome State Fault Refusal :=
  execute (cmdWord wdata 0 addr 0x05)
    (.access { kind := .scalar, width := .four, read := true }) s

end Sys2Proof.Machine
end

