-- ==== Sys2Proof/Machine/Dispatch.lean ====
section
/-! DEFINITION. One arm per instruction: the meaning each row of spec/opcode_table.json has. -/

namespace Sys2Proof.Machine

open Sys2Proof

def exec (i : Instr) (s : State) : Host.Outcome State Fault Refusal :=
  match i with
  | .wr8 addr wdata => Sys2Proof.Machine.execWr8 addr wdata s
  | .rd8 addr wdata => Sys2Proof.Machine.execRd8 addr wdata s
  | .wr16 addr wdata => Sys2Proof.Machine.execWr16 addr wdata s
  | .rd16 addr wdata => Sys2Proof.Machine.execRd16 addr wdata s
  | .wr32 addr wdata => Sys2Proof.Machine.execWr32 addr wdata s
  | .rd32 addr wdata => Sys2Proof.Machine.execRd32 addr wdata s
  | .wrblk8 addr count wdata => Sys2Proof.Machine.execWrblk8 addr count wdata s
  | .rdblk8 addr count wdata => Sys2Proof.Machine.execRdblk8 addr count wdata s
  | .wrblk16 addr count wdata => Sys2Proof.Machine.execWrblk16 addr count wdata s
  | .rdblk16 addr count wdata => Sys2Proof.Machine.execRdblk16 addr count wdata s
  | .wrblk32 addr count wdata => Sys2Proof.Machine.execWrblk32 addr count wdata s
  | .rdblk32 addr count wdata => Sys2Proof.Machine.execRdblk32 addr count wdata s
  | .wrpage addr wdata => Sys2Proof.Machine.execWrpage addr wdata s
  | .rdpage addr wdata => Sys2Proof.Machine.execRdpage addr wdata s
  | .init capKbit hold => Sys2Proof.Machine.execInit capKbit hold s
  | .reservedIllegal cw => Sys2Proof.Machine.execReservedIllegal cw s
  | .devWrmr => Sys2Proof.Machine.execDevWrmr s
  | .devWrite => Sys2Proof.Machine.execDevWrite s
  | .devRead => Sys2Proof.Machine.execDevRead s
  | .devRdmr => Sys2Proof.Machine.execDevRdmr s

end Sys2Proof.Machine
end

