-- ==== Sys2Proof/Machine/Step.lean ====
section
/-! DEFINITION. One step of the machine: it runs one instruction (a command from its ACCEPT until the CORE is idle
again or waits, or a device instruction byte), or makes one quiet move. The spec's own step, one event at a time
(00_scope.md R8, R19), is Sys2Proof.Machine.tick; the trace keeps every event in order (R10), so nothing observed is
lost (R123; log 1). -/

namespace Sys2Proof.Machine

open Sys2Proof

/-- One step: the next instruction runs, or nothing is there to run. -/
def step (s : State) : Host.Outcome State Fault Refusal :=
  match nextInstr s with
  | some (i, s') => exec i s'
  | none => .next (quietMove s)

/-- s with one instruction placed where step fetches next (log 11). A device instruction byte is given to the
reference device by hand at the start of a frame; a command word is offered by the HOST to an idle CORE. No reset is
due. -/
def State.withFetchWord (s : State) (nbits w : Nat) : State :=
  if nbits ≤ 8 ∧ (decodeDev (BitVec.ofNat 8 w)).isSome = true then
    { s with wire := [BitVec.ofNat 8 w], dev := { s.dev with frame := .start } }
  else
    { s with wire := [], resetIn := none, ph := .idle, cmdIn := BitVec.ofNat 80 w :: s.cmdIn }

end Sys2Proof.Machine
end

