-- ==== Sys2Proof/Machine/Accessors.lean ====
section
/-! DEFINITION. The typed accessors of 44_typed_accessors.md (R165 to R184), host-side pseudo-instructions: each is
one command with a conversion the HOST makes. A float is its binary32 bit pattern, unchanged (R176, R177, R180). -/

namespace Sys2Proof.Machine

open Sys2Proof

/-- bits32 of a signed integer (R172): v when v ≥ 0, v + 2^32 when v < 0. -/
def bits32 (v : Int) : Data := BitVec.ofNat 32 (if 0 ≤ v then v else v + 2 ^ 32).toNat

/-- int32 of a response value (R173): less 2^32 when bit 31 is 1. -/
def int32 (v : Data) : Int := if v.getLsbD 31 then (v.toNat : Int) - 2 ^ 32 else (v.toNat : Int)

/-- write_byte (R166). -/
def writeByte (addr : Addr) (v : BitVec 8) : Instr := .wr8 addr (v.setWidth 32)

/-- read_byte: the command, and the value from rsp_rdata (R167). -/
def readByte (addr : Addr) : Instr := .rd8 addr 0

/-- The value read_byte returns (R167). -/
def readByteValue (rdata : Data) : BitVec 8 := rdata.extractLsb' 0 8

/-- write_word (R168). -/
def writeWord (addr : Addr) (v : BitVec 16) : Instr := .wr16 addr (v.setWidth 32)

/-- read_word (R169). -/
def readWord (addr : Addr) : Instr := .rd16 addr 0

/-- The value read_word returns (R169). -/
def readWordValue (rdata : Data) : BitVec 16 := rdata.extractLsb' 0 16

/-- write_dword (R170). -/
def writeDword (addr : Addr) (v : BitVec 32) : Instr := .wr32 addr v

/-- read_dword: the command (R171). -/
def readDword (addr : Addr) : Instr := .rd32 addr 0

/-- The value read_dword returns: all 32 bits of rsp_rdata (R171). -/
def readDwordValue (rdata : Data) : BitVec 32 := rdata

/-- write_int32 (R172). -/
def writeInt32 (addr : Addr) (v : Int) : Instr := .wr32 addr (bits32 v)

/-- read_int32: the command (R173). -/
def readInt32 (addr : Addr) : Instr := .rd32 addr 0

/-- The value read_int32 returns (R173). -/
def readInt32Value (rdata : Data) : Int := int32 rdata

/-- write_long is write_int32 (R174). -/
def writeLong (addr : Addr) (v : Int) : Instr := writeInt32 addr v

/-- read_long is read_int32 (R175). -/
def readLong (addr : Addr) : Instr := readInt32 addr

/-- The value read_long returns (R175). -/
def readLongValue (rdata : Data) : Int := readInt32Value rdata

/-- write_float, on the bit pattern of the float (R176). -/
def writeFloat (addr : Addr) (bits : BitVec 32) : Instr := .wr32 addr bits

/-- read_float: the command (R177). -/
def readFloat (addr : Addr) : Instr := .rd32 addr 0

/-- The bit pattern of the float read_float returns (R177). -/
def readFloatBits (rdata : Data) : BitVec 32 := rdata

/-- The scalar types of the accessor set (R165). -/
inductive ScalarType where
  | u8
  | u16
  | u32
  | int32
  | long
  | float
  deriving DecidableEq, Repr

/-- A value of one of them: the source's typed scalar union (R165); a float is its bit pattern. -/
inductive TypedValue where
  | u8 (v : BitVec 8)
  | u16 (v : BitVec 16)
  | u32 (v : BitVec 32)
  | int32 (v : Int)
  | long (v : Int)
  | float (bits : BitVec 32)
  deriving DecidableEq, Repr

/-- Which type the value has. -/
def TypedValue.type (v : TypedValue) : ScalarType :=
  match v with
  | .u8 _ => .u8
  | .u16 _ => .u16
  | .u32 _ => .u32
  | .int32 _ => .int32
  | .long _ => .long
  | .float _ => .float

/-- A signed integer has 32 bits (R165); every other value is one of its type as it stands. -/
def TypedValue.inType (v : TypedValue) : Bool :=
  match v with
  | .u8 _ => true
  | .u16 _ => true
  | .u32 _ => true
  | .int32 v => decide (-2 ^ 31 ≤ v ∧ v < 2 ^ 31)
  | .long v => decide (-2 ^ 31 ≤ v ∧ v < 2 ^ 31)
  | .float _ => true

/-- The width of a type's commands: write_T and read_T use the same (R184). -/
def ScalarType.width (ty : ScalarType) : Width :=
  match ty with
  | .u8 => .one
  | .u16 => .two
  | .u32 => .four
  | .int32 => .four
  | .long => .four
  | .float => .four

/-- write_T (R166, R168, R170, R172, R174, R176). -/
def writeTyped (addr : Addr) (v : TypedValue) : Instr :=
  match v with
  | .u8 v => writeByte addr v
  | .u16 v => writeWord addr v
  | .u32 v => writeDword addr v
  | .int32 v => writeInt32 addr v
  | .long v => writeLong addr v
  | .float bits => writeFloat addr bits

/-- The command of read_T (R167, R169, R171, R173, R175, R177). -/
def readTyped (ty : ScalarType) (addr : Addr) : Instr :=
  match ty with
  | .u8 => readByte addr
  | .u16 => readWord addr
  | .u32 => readDword addr
  | .int32 => readInt32 addr
  | .long => readLong addr
  | .float => readFloat addr

/-- The value read_T returns, from rsp_rdata (R167, R169, R171, R173, R175, R177). -/
def typedValue (ty : ScalarType) (rdata : Data) : TypedValue :=
  match ty with
  | .u8 => .u8 (readByteValue rdata)
  | .u16 => .u16 (readWordValue rdata)
  | .u32 => .u32 (readDwordValue rdata)
  | .int32 => .int32 (readInt32Value rdata)
  | .long => .long (readLongValue rdata)
  | .float => .float (readFloatBits rdata)

/-- A command run to the end of its transaction with the response OK: the state after it. -/
def execOk (i : Instr) (s : State) : Option State :=
  match exec i s with
  | .next t => if t.ph = .idle ∧ t.rspSt = .ok then some t else none
  | .fault _ => none
  | .refused _ => none

/-- What read_T returns after write_T of a value at the same address (R184); none when one of the two commands does
not complete OK. -/
def typedRoundTrip (addr : Addr) (v : TypedValue) (s : State) : Option TypedValue :=
  (execOk (writeTyped addr v) s).bind fun t =>
    (execOk (readTyped v.type addr) t).map fun u => typedValue v.type u.rspRd

/-- write_block on bytes: the command and the elements for the write-data stream; none when the length does not
fit COUNT (R178). -/
def writeBlock (values : List (BitVec 8)) (addr : Addr) : Option (Instr × List Data) :=
  if values.length < 2 ^ 16 then
    some (.wrblk8 addr (BitVec.ofNat 16 values.length) 0, values.map (·.setWidth 32))
  else none

/-- read_block on bytes, in one command; none when the length does not fit COUNT (R178). -/
def readBlock (addr : Addr) (len : Nat) : Option Instr :=
  if len < 2 ^ 16 then some (.rdblk8 addr (BitVec.ofNat 16 len) 0) else none

/-- The bytes read_block returns, from the read-data stream (R178). -/
def readBlockValues (elems : List Data) : List (BitVec 8) := elems.map (·.extractLsb' 0 8)

/-- write_word_block (R179). -/
def writeWordBlock (values : List (BitVec 16)) (addr : Addr) : Option (Instr × List Data) :=
  if values.length < 2 ^ 16 then
    some (.wrblk16 addr (BitVec.ofNat 16 values.length) 0, values.map (·.setWidth 32))
  else none

/-- read_word_block (R179). -/
def readWordBlock (addr : Addr) (len : Nat) : Option Instr :=
  if len < 2 ^ 16 then some (.rdblk16 addr (BitVec.ofNat 16 len) 0) else none

/-- The words read_word_block returns (R179). -/
def readWordBlockValues (elems : List Data) : List (BitVec 16) := elems.map (·.extractLsb' 0 16)

/-- write_dword_block, and write_float_block on bit patterns (R179, R180). -/
def writeDwordBlock (values : List (BitVec 32)) (addr : Addr) : Option (Instr × List Data) :=
  if values.length < 2 ^ 16 then
    some (.wrblk32 addr (BitVec.ofNat 16 values.length) 0, values)
  else none

/-- read_dword_block and read_float_block (R179, R180). -/
def readDwordBlock (addr : Addr) (len : Nat) : Option Instr :=
  if len < 2 ^ 16 then some (.rdblk32 addr (BitVec.ofNat 16 len) 0) else none

/-- The element counts of the commands into which the HOST splits a block of len elements (R178). DESIGN CHOICE
(log 25): every command but the last takes all that COUNT holds, 65535; R178 says 'several commands' and not where the
sequence is cut. -/
def chunkCounts (len : Nat) : List Nat :=
  List.replicate ((len - 1) / 65535) 65535 ++ [len - 65535 * ((len - 1) / 65535)]

/-- The elements cut at those counts. -/
def cutElements : List Nat → List Data → List (List Data)
  | [], _ => []
  | n :: rest, es => es.take n :: cutElements rest (es.drop n)

/-- One command for each count, each with its own address (R178). DESIGN CHOICE (log 25): the address goes on by the
bytes of the command before, modulo 2^24. -/
def blockCommands (make : Addr → Count → Instr) (bytes : Nat) : List Nat → Addr → List Instr
  | [], _ => []
  | n :: rest, a =>
    make a (BitVec.ofNat 16 n) :: blockCommands make bytes rest (a + BitVec.ofNat 24 (n * bytes))

/-- The block write command of an element width (R178, R179). -/
def blockWriteOf (w : Width) (addr : Addr) (n : Count) : Instr :=
  match w with
  | .one => .wrblk8 addr n 0
  | .two => .wrblk16 addr n 0
  | .four => .wrblk32 addr n 0

/-- The block read command of an element width (R178, R179). -/
def blockReadOf (w : Width) (addr : Addr) (n : Count) : Instr :=
  match w with
  | .one => .rdblk8 addr n 0
  | .two => .rdblk16 addr n 0
  | .four => .rdblk32 addr n 0

/-- A block write of any length: its commands, each with the elements for the write-data stream (R178, R179). -/
def splitWrite (w : Width) (es : List Data) (addr : Addr) : List (Instr × List Data) :=
  (blockCommands (blockWriteOf w) (widthBytes w) (chunkCounts es.length) addr).zip
    (cutElements (chunkCounts es.length) es)

/-- A block read of any length: its commands (R178, R179). -/
def splitRead (w : Width) (addr : Addr) (len : Nat) : List Instr :=
  blockCommands (blockReadOf w) (widthBytes w) (chunkCounts len) addr

/-- write_block on a byte sequence of any length (R178). -/
def splitBlock (values : List (BitVec 8)) (addr : Addr) : List (Instr × List Data) :=
  splitWrite .one (values.map (·.setWidth 32)) addr

/-- read_block of any length (R178): its commands; readBlockValues of all the elements they deliver, in order, is the
sequence. -/
def splitReadBlock (addr : Addr) (len : Nat) : List Instr := splitRead .one addr len

/-- write_page: exactly 32 bytes (R181). -/
def writePage (addr : Addr) (bytes : Vector (BitVec 8) 32) : Instr × List Data :=
  (.wrpage addr 0, bytes.toList.map (·.setWidth 32))

/-- read_page (R181). -/
def readPage (addr : Addr) : Instr := .rdpage addr 0

/-- Bit order of the bus peripheral (R6). -/
inductive BitOrder where
  | msbFirst
  | lsbFirst
  deriving DecidableEq, Repr

/-- What the HOST sets in the bus peripheral, outside the CORE: SPI_CLK_DIV, SPI_MODE, BIT_ORDER (R6, R156). -/
structure BusConfig where
  clkDiv : Nat
  phaseMode : Nat
  bitOrder : BitOrder
  deriving DecidableEq, Repr

/-- init (R182): the HOST configures the bus peripheral, and issues INIT with the capacity and HOLD_EN. The
chip-select argument has no CORE form (R156). -/
def initAccessor (_cs clkDiv phaseMode : Nat) (bitOrder : BitOrder) (capKbit : Addr) (hold : Bool) :
    BusConfig × Instr :=
  (⟨clkDiv, phaseMode, bitOrder⟩, .init capKbit hold)

end Sys2Proof.Machine
end

