-- ==== Sys2Proof/Machine/Assembler.lean ====
section
/-! DEFINITION. The textual form of commands (30_encoding.md R87): a line's parts and its text, and the command word
it stands for (R88). -/

namespace Sys2Proof.Machine

open Sys2Proof

/-- A line of the assembler (R87). The elements after 'wd:' are what the HOST supplies on the write-data stream; they
are no part of the word. -/
inductive AsmLine where
  | init (cap : Addr) (hold : Bool)
  | readScalar (w : Width) (addr : Addr)
  | writeScalar (w : Width) (addr : Addr) (value : Data)
  | readBlock (w : Width) (addr : Addr) (count : Count)
  | writeBlock (w : Width) (addr : Addr) (count : Count) (wd : List Data)
  | readPage (addr : Addr)
  | writePage (addr : Addr) (wd : List Data)
  | word (cw : CmdWord)
  deriving DecidableEq, Repr

/-- ESZ of a width (R71). -/
def eszCode : Width → BitVec 2
  | .one => 0
  | .two => 1
  | .four => 2

/-- KIND of a command (R71). -/
def kindCode : Kind → BitVec 2
  | .scalar => 0
  | .block => 1
  | .page => 2

/-- OP = {000, KIND, ESZ, DIR} (R71). -/
def opCode (k : Kind) (w : Width) (read : Bool) : Byte :=
  (0 : BitVec 3) ++ kindCode k ++ eszCode w ++ BitVec.ofBool read

/-- The command word of a line (R88). -/
def assemble : AsmLine → CmdWord
  | .init c h => cmdWord (if h then 1 else 0) 0 c 0x18
  | .readScalar w a => cmdWord 0 0 a (opCode .scalar w true)
  | .writeScalar w a v => cmdWord v 0 a (opCode .scalar w false)
  | .readBlock w a n => cmdWord 0 n a (opCode .block w true)
  | .writeBlock w a n _ => cmdWord 0 n a (opCode .block w false)
  | .readPage a => cmdWord 0 0 a (opCode .page .one true)
  | .writePage a _ => cmdWord 0 0 a (opCode .page .one false)
  | .word cw => cw

/-- One hexadecimal digit. -/
def hexDigit (n : Nat) : Char :=
  "0123456789ABCDEF".toList.getD n '0'

/-- n in hexadecimal with that many digits. -/
def hexDigits : Nat → Nat → List Char
  | 0, _ => []
  | d + 1, n => hexDigits d (n / 16) ++ [hexDigit (n % 16)]

/-- A number written 0x with that many digits. -/
def hexText (d n : Nat) : String := "0x" ++ String.ofList (hexDigits d n)

/-- The number of bits in an element width, as the mnemonics spell it. -/
def widthText : Width → String
  | .one => "8"
  | .two => "16"
  | .four => "32"

/-- The elements after 'wd:', separated by commas. -/
def elementsText : List Data → String
  | [] => ""
  | [e] => hexText 8 e.toNat
  | e :: rest => hexText 8 e.toNat ++ ", " ++ elementsText rest

/-- The text of a line (R87). -/
def asmText : AsmLine → String
  | .init c h => "INIT cap=" ++ hexText 6 c.toNat ++ ", hold=" ++ (if h then "1" else "0")
  | .readScalar w a => "RD" ++ widthText w ++ " " ++ hexText 6 a.toNat
  | .writeScalar w a v => "WR" ++ widthText w ++ " " ++ hexText 6 a.toNat ++ ", " ++ hexText 8 v.toNat
  | .readBlock w a n => "RDBLK" ++ widthText w ++ " " ++ hexText 6 a.toNat ++ ", #" ++ hexText 4 n.toNat
  | .writeBlock w a n wd =>
    "WRBLK" ++ widthText w ++ " " ++ hexText 6 a.toNat ++ ", #" ++ hexText 4 n.toNat ++ " wd: "
      ++ elementsText wd
  | .readPage a => "RDPAGE " ++ hexText 6 a.toNat
  | .writePage a wd => "WRPAGE " ++ hexText 6 a.toNat ++ " wd: " ++ elementsText wd
  | .word cw => ".word " ++ hexText 20 cw.toNat

end Sys2Proof.Machine
end

