-- ==== Sys2Proof/Machine/Ports.lean ====
section
/-! DEFINITION. The CORE's ports (00_scope.md R9): the HOST's and the BUS's side as State holds them, and the
host-visible outputs as functions of state (10_state.md R39). -/

namespace Sys2Proof.Machine

open Sys2Proof

/-- The shape of the command latched in CUR, if it is a read or write command. -/
def State.flight (s : State) : Option Access := accessOf (decodeCmd s.cur)

/-- FREE VALUE. rd_data where R39 states none: while rd_valid = 0, or with no read or write command in CUR, which is what
gives E. Some function of the state, as R39 says of every output. DESIGN CHOICE (log 26). -/
opaque freeRdData : State → Data

/-- FREE VALUE. rsp_status outside PH = RSP, where R35 states none. DESIGN CHOICE (log 26). -/
opaque freeRspStatus : State → BitVec 2

/-- FREE VALUE. rsp_rdata outside PH = RSP, where R35 states none. DESIGN CHOICE (log 26). -/
opaque freeRspRdata : State → Data

/-- cmd_valid and cmd_word. -/
def cmdValid (s : State) : Bool := !s.cmdIn.isEmpty

/-- wd_valid. -/
def wdValid (s : State) : Bool := !s.wdIn.isEmpty

/-- rd_ready. -/
def rdTaken (s : State) : Bool := s.rdReady.take.isSome

/-- rsp_ready. -/
def rspTaken (s : State) : Bool := s.rspReady.take.isSome

/-- cmd_ready = (PH == IDLE). -/
def cmdReady (s : State) : Bool := s.ph == .idle

/-- wd_ready: only in DATA_LD of a block or page write. -/
def wdReady (s : State) : Bool :=
  match s.flight with
  | some a => s.ph == .dataLd && !a.read && a.kind != .scalar
  | none => false

/-- rd_valid: only in DATA_ST. -/
def rdValid (s : State) : Bool := s.ph == .dataSt

/-- rd_data = zext_32(ACC[8E-1:0]) while rd_valid = 1, E being that of the command in CUR. DESIGN CHOICE (log 26): where
R39 states no value it is a free value. -/
def rdData (s : State) : Data :=
  match s.flight with
  | some a => if rdValid s then lowBytes s.acc (elemBytes a) else freeRdData s
  | none => freeRdData s

/-- rsp_valid = (PH == RSP). -/
def rspValid (s : State) : Bool := s.ph == .rsp

/-- rsp_status = RSP_ST while PH = RSP (R35). DESIGN CHOICE (log 26): a free value in every other phase. -/
def rspStatus (s : State) : BitVec 2 := if rspValid s then statusCode s.rspSt else freeRspStatus s

/-- rsp_rdata = RSP_RD while PH = RSP (R35). DESIGN CHOICE (log 26): a free value in every other phase. -/
def rspRdata (s : State) : Data := if rspValid s then s.rspRd else freeRspRdata s

/-- xfer_tx, the byte R120 names for a transfer phase; none in every other phase. -/
def xferTx (s : State) : Option Byte :=
  match s.ph, s.flight with
  | .mrOpc, some _ => some Config.insWrmr
  | .mrVal, some _ => some s.m
  | .dirb, some a => some (dirByte a)
  | .addr, some _ => some (addrByte s.curAddr s.ai.toNat)
  | .dataX, some a => some (if a.read then Config.dummyTx else byteOf s.ebuf s.i.toNat)
  | _, _ => none

/-- xfer_req = 1 only in MR_OPC, MR_VAL, DIRB, ADDR and DATA_X. -/
def xferReq (s : State) : Bool := (xferTx s).isSome

/-- cs_n = ~CS_ACT, at all times (R26, R102). -/
def csN (s : State) : Bool := !s.csAct

end Sys2Proof.Machine
end

