-- ==== Sys2Proof/Machine/Transact.lean ====
section
/-! DEFINITION. The command procedure as 40_transaction.md writes it in pseudocode: SET_MODE (R107), FRAME_ADDRESS
(R112), TRANSACT (R118) and EXECUTE (R119). It is the second description of the same hardware: R120 says that the
phase FSM realises it. Every procedure answers none while an agent keeps it waiting for ever (R223). -/

namespace Sys2Proof.Machine

open Sys2Proof

/-- XFER for each byte of a list, the received bytes discarded. -/
def sendBytes : List Byte → State → Option State
  | [], s => some s
  | b :: rest, s => (sendByte b s).bind (sendBytes rest)

/-- acc[8i+7:8i] <- XFER(0x00) for i, i+1, ..., i+n-1 (R118). -/
def recvElement (i : Nat) (acc : Data) (s : State) : Nat → Option (Data × State)
  | 0 => some (acc, s)
  | n + 1 => (recvByte Config.dummyTx s).bind fun p => recvElement (i + 1) (setByte acc i p.1) p.2 n

/-- SET_MODE(m) (R107, R108). -/
def setMode (m : Byte) (s : State) : Option State :=
  if s.mcV = true ∧ s.mcVal = m then some s
  else
    (sendBytes [Config.insWrmr, m] (csAssert s)).map fun s' =>
      csAssert (csDeassert { s' with mcV := true, mcVal := m })

/-- FRAME_ADDRESS(CUR_ADDR) (R112). -/
def frameAddress (s : State) : Option State := sendBytes (addrFrame s.cfgAddr3 s.curAddr) s

/-- The elements of a write data phase, n of them still to come (R117, R118). -/
def writeElements (a : Access) (s : State) : Nat → Option State
  | 0 => some s
  | n + 1 =>
    (if a.kind = .scalar then some (s.curWdata, s) else takeElement s).bind fun p =>
      (sendBytes (unpackLE p.1 (elemBytes a)) p.2).bind fun s' => writeElements a s' n

/-- What happens to a completed read element (R117): a scalar's becomes the response value, another goes to the
read-data stream. -/
def deliver (a : Access) (v : Data) (s : State) : Option State :=
  if a.kind = .scalar then some { s with rspRd := v } else giveElement v s

/-- The elements of a read data phase, n of them still to come (R117, R118). -/
def readElements (a : Access) (s : State) : Nat → Option State
  | 0 => some s
  | n + 1 =>
    (recvElement 0 0 s (elemBytes a)).bind fun p =>
      (deliver a (lowBytes p.1 (elemBytes a)) p.2).bind fun s' => readElements a s' n

/-- The data phase (R118). -/
def dataPhase (a : Access) (s : State) : Option State :=
  if a.read then readElements a s (elemCount a s.cur) else writeElements a s (elemCount a s.cur)

/-- TRANSACT() (R118). -/
def transact (a : Access) (s : State) : Option State :=
  (setMode s.m (csAssert s)).bind fun s1 =>
    (if usesDir a s.dirOpcodeMulti then sendByte (dirByte a) (checkFrame a (dirByte a) s1)
      else some (checkFrame a ((addrFrame s.cfgAddr3 s.curAddr).headD 0) s1)).bind fun s2 =>
      (frameAddress s2).bind fun s3 => (dataPhase a s3).map csDeassert

/-- RESPOND(st, v) (R13). -/
def respondWith (st : Status) (v : Data) (s : State) : Option State :=
  giveResponse { s with rspSt := st, rspRd := v }

/-- EXECUTE(cw) of R119, after ACCEPT(cw), for the command c that CUR holds. -/
def procedure (c : Cmd) (s : State) : Option State :=
  if legal s.cur = false then respondWith .errIllegal 0 s
  else
    match c with
    | .illegal => respondWith .errIllegal 0 s
    | .init => respondWith .ok 0 (doInit s)
    | .access a =>
      if s.cfgInit = false then respondWith .errNotInit 0 s
      else if byteCount a s.cur = 0 then respondWith .ok 0 s
      else if s.rangeCheck = true ∧ inRange a s.cur s.cfgCapKbit.toNat = false then
        respondWith .errRange 0 s
      else
        (transact a { s with m := requestedMode a s.cfgHoldEn, rspRd := 0 }).bind fun s' =>
          respondWith .ok s'.rspRd s'

/-- The state without the sequencer's scratch registers AI, K, I, ACC and EBUF (R29 to R33), of which R118 and R119
say nothing. -/
def State.withoutScratch (s : State) : State :=
  { s with ai := 0, k := 0, i := 0, acc := 0, ebuf := 0 }

end Sys2Proof.Machine
end

