-- ==== Sys2Proof/Safety.lean ====
section
/-! DEFINITION. What claims are stated in: the invariant of the CORE, the agreement of the mode cache with the
device, the events and the final states the command rules write out, and counts over the event trace. -/

namespace Sys2Proof.Safety

open Sys2Proof Sys2Proof.Machine

/-! ### Chip-select over the event trace (R102, R103) -/

/-- The line after one more event; none when the event is not allowed on that line: SEL and DESEL alternate, a byte
or a stream element moves only while the device is selected, ACCEPT and RSP come only while it is not. -/
def lineStep : Option Bool → Event → Option Bool
  | some false, .sel => some true
  | some true, .desel => some false
  | some true, .xfer _ => some true
  | some true, .xferKeep _ _ => some true
  | some true, .wd _ => some true
  | some true, .rd _ => some true
  | some false, .accept _ => some false
  | some false, .rsp _ _ => some false
  | x, .reset => x
  | _, _ => none

/-- The line after a trace that starts deasserted: some true is asserted. -/
def lineAfter (tr : List Event) : Option Bool := tr.foldl lineStep (some false)

/-- The phases in which chip-select is asserted (R120). -/
def selectedPhase : Phase → Bool
  | .idle => false
  | .check => false
  | .sel => false
  | .mrcmp => true
  | .mrOpc => true
  | .mrVal => true
  | .mrDesel => true
  | .mrResel => false
  | .dirb => true
  | .addr => true
  | .dataLd => true
  | .dataX => true
  | .dataSt => true
  | .fin => true
  | .rsp => false
  | .reserved => false

/-! ### The invariant of the CORE -/

/-- R23: a configuration that INIT latched is legal, and ADDR3 follows from the capacity. -/
def cfgLegal (s : State) : Bool :=
  !s.cfgInit
    || (1 ≤ s.cfgCapKbit.toNat && s.cfgCapKbit.toNat ≤ Config.capMaxKbit
        && s.cfgAddr3 == addr3Of s.cfgCapKbit.toNat)

/-- R24, R81: a valid mode cache holds one of the three modes, with HOLD as configured. -/
def cacheLegal (s : State) : Bool :=
  !s.mcV
    || (s.cfgInit
        && (s.mcVal == Config.modeByte ||| (if s.cfgHoldEn then Config.modeHold else 0)
          || s.mcVal == Config.modeSeq ||| (if s.cfgHoldEn then Config.modeHold else 0)
          || s.mcVal == Config.modePage ||| (if s.cfgHoldEn then Config.modeHold else 0)))

/-- What R120 and R121 give for each phase of a read or write command: the direction, the counters' ranges, and the
cache once the mode is set. -/
def phaseFits (a : Access) (s : State) : Bool :=
  match s.ph with
  | .idle => true
  | .check => true
  | .sel => true
  | .mrcmp => true
  | .mrOpc => true
  | .mrVal => true
  | .mrDesel => s.mcV && s.mcVal == s.m
  | .mrResel => s.mcV && s.mcVal == s.m
  | .dirb =>
    s.mcV && s.mcVal == s.m && usesDir a s.dirOpcodeMulti && s.ai == firstAddrIndex s.cfgAddr3
  | .addr => s.mcV && s.mcVal == s.m && decide (s.ai.toNat < addrBytes s.cfgAddr3)
  | .dataLd => s.mcV && s.mcVal == s.m && !a.read && s.i == 0 && countersInRange a s
  | .dataX => s.mcV && s.mcVal == s.m && countersInRange a s
  | .dataSt => s.mcV && s.mcVal == s.m && a.read && a.kind != .scalar && s.i == 0 && countersInRange a s
  | .fin => s.mcV && s.mcVal == s.m
  | .rsp => true
  | .reserved => false

/-- The phases between CHECK and RSP, in which a read or write command that passed CHECK is in flight. -/
def inFlight : Phase → Bool
  | .idle => false
  | .check => false
  | .sel => true
  | .mrcmp => true
  | .mrOpc => true
  | .mrVal => true
  | .mrDesel => true
  | .mrResel => true
  | .dirb => true
  | .addr => true
  | .dataLd => true
  | .dataX => true
  | .dataSt => true
  | .fin => true
  | .rsp => false
  | .reserved => true

/-- In those phases CUR holds a read or write command that passed every check of R190, and M its mode (R106). -/
def flightLegal (s : State) : Bool :=
  match accessOf (decodeCmd s.cur) with
  | none => !inFlight s.ph
  | some a =>
    !inFlight s.ph
      || (s.cfgInit && decide (0 < byteCount a s.cur)
          && (!s.rangeCheck || inRange a s.cur s.cfgCapKbit.toNat)
          && s.m == requestedMode a s.cfgHoldEn && phaseFits a s)

/-- The invariant of the CORE in every state a run reaches. -/
structure Inv (s : State) : Prop where
  /-- R23. -/
  cfg : cfgLegal s = true
  /-- R24. -/
  cache : cacheLegal s = true
  /-- R120: chip-select is asserted exactly in its phases. -/
  line : s.csAct = selectedPhase s.ph
  /-- R102, R103: the trace is one of an alternating line, which is now CS_ACT. -/
  trace : lineAfter s.trace = some s.csAct
  /-- R120, R121: phase, counters and command fit together, and PH = 15 does not occur. -/
  flight : flightLegal s = true
  /-- DMEM is in canonical form. -/
  mem : Memory.wf s.dev.mem = true

/-! ### The mode cache and the reference device (R25, R61, R104, R219) -/

/-- Where the device's frame parser stands in each phase of a command (R62 to R64). -/
def frameFits (s : State) : Bool :=
  match s.ph, s.dev.frame with
  | .mrcmp, .start => true
  | .mrOpc, .start => true
  | .mrVal, .modeVal => true
  | .mrDesel, .modeDone => true
  | .dirb, .start => true
  | .addr, .start =>
    match accessOf (decodeCmd s.cur) with
    | some a => !usesDir a s.dirOpcodeMulti
    | none => false
  | .addr, .addr _ left _ => left == s.ai.toNat + 1
  | .dataLd, .data _ _ _ => true
  | .dataX, .data _ _ _ => true
  | .dataSt, .data _ _ _ => true
  | .fin, .data _ _ _ => true
  | .idle, .closed => true
  | .check, .closed => true
  | .sel, .closed => true
  | .mrResel, .closed => true
  | .rsp, .closed => true
  | _, _ => false

/-- Under single ownership (nothing given to the device by hand) and without a BAD mark, a valid mode cache is the
device's mode register, and the device's frame parser is in step with the phase. -/
structure CacheMirrorsDevice (s : State) : Prop where
  noHand : s.wire = []
  mode : s.bus = .device → s.dev.bad = false → s.mcV = true → s.dev.dmode = .written s.mcVal
  frame : s.bus = .device → s.dev.bad = false → frameFits s = true

/-! ### The first byte of a frame (R83, R86) -/

/-- Every byte sent right after a SEL is INS_WRMR, INS_WRITE or INS_READ. -/
def headsKnown : List Event → Bool
  | .sel :: .xfer t :: rest =>
    (t == Config.insWrmr || t == Config.insWrite || t == Config.insRead) && headsKnown (.xfer t :: rest)
  | .sel :: .xferKeep _ _ :: _ => false
  | _ :: rest => headsKnown rest
  | [] => true

/-- The trace has known heads only, and in each phase the last event is SEL exactly where the next byte is the first
of its frame. -/
structure HeadsInv (s : State) : Prop where
  dir : s.dirOpcodeMulti = true
  heads : headsKnown s.trace = true
  first : s.ph = .mrcmp ∨ s.ph = .mrOpc ∨ s.ph = .dirb → s.trace.getLast? = some .sel
  later :
    s.ph = .mrVal ∨ s.ph = .addr ∨ s.ph = .dataLd ∨ s.ph = .dataX ∨ s.ph = .dataSt →
      s.trace.getLast? ≠ some .sel

/-! ### The events of a command (R83, R118) -/

/-- The mode cache does not hold the requested mode (R107). -/
def cacheMiss (a : Access) (s : State) : Bool :=
  !(s.mcV && s.mcVal == requestedMode a s.cfgHoldEn)

/-- SEL and, on a miss, the mode-write frame with its DESEL and SEL (R107, R118). -/
def modeEvents (a : Access) (s : State) : List Event :=
  if cacheMiss a s then
    [.sel, .xfer Config.insWrmr, .xfer (requestedMode a s.cfgHoldEn), .desel, .sel]
  else [.sel]

/-- The direction byte, if the command sends one (R110, R111). -/
def dirEvents (a : Access) (s : State) : List Event :=
  if usesDir a s.dirOpcodeMulti then [.xfer (dirByte a)] else []

/-- Everything a command sends before its data (R118). -/
def openingEvents (a : Access) (addr : Addr) (s : State) : List Event :=
  modeEvents a s ++ dirEvents a s ++ (addrFrame s.cfgAddr3 addr).map .xfer

/-- How many transfers those are (R228). -/
def openingTransfers (a : Access) (s : State) : Nat :=
  (if cacheMiss a s then 2 else 0) + (if usesDir a s.dirOpcodeMulti then 1 else 0)
    + addrBytes s.cfgAddr3

/-- The bytes of a data phase cut into n elements of e bytes. -/
def elements (e : Nat) : Nat → List Byte → List (List Byte)
  | 0, _ => []
  | n + 1, bytes => bytes.take e :: elements e n (bytes.drop e)

/-- The events of a read data phase in which the BUS answers these bytes (R116, R117): each element's bytes, then,
unless the command is a scalar, the element on the read-data stream. -/
def readEvents (a : Access) (n : Nat) (bytes : List Byte) : List Event :=
  (elements (elemBytes a) n bytes).flatMap fun e =>
    e.map (.xferKeep Config.dummyTx) ++ (if a.kind = .scalar then [] else [.rd (packLE e)])

/-- The events of a write data phase of these elements (R117): each element taken from the write-data stream, unless
the command is a scalar, and its bytes, least significant first. -/
def writeEvents (a : Access) (es : List Data) : List Event :=
  es.flatMap fun e =>
    (if a.kind = .scalar then [] else [.wd e]) ++ (unpackLE e (elemBytes a)).map .xfer

/-! ### The states a command ends in -/

/-- An idle CORE with chip-select deasserted, no reset coming, and a HOST that takes every response and every read
element. -/
structure Willing (s : State) : Prop where
  idle : s.ph = .idle
  line : s.csAct = false
  noReset : s.resetIn = none
  takesRsp : s.rspReady = .always
  takesRd : s.rdReady = .always

/-- The end of a command that CHECK answered: CUR, the response and two events, and nothing else (R191). -/
def answered (s : State) (cw : CmdWord) (st : Status) : State :=
  { s with
    cur := cw
    rspSt := st
    rspRd := 0
    trace := s.trace ++ [.accept cw, .rsp st 0] }

/-- The end of a read or write command that responded OK with the value v (R108, R118, R119): CUR, M, the mode
cache, the response, and the events ACCEPT, those given, and RSP. -/
def finished (a : Access) (s : State) (cw : CmdWord) (v : Data) (evs : List Event) : State :=
  { s with
    cur := cw
    m := requestedMode a s.cfgHoldEn
    mcV := true
    mcVal := requestedMode a s.cfgHoldEn
    rspSt := .ok
    rspRd := v
    trace := s.trace ++ .accept cw :: evs ++ [.rsp .ok v] }

/-- What CHECK asks of a read or write command before it starts (R119): INIT has succeeded, there is something to
move, and, under RANGE_CHECK, it lies inside the device. -/
structure Admitted (a : Access) (cw : CmdWord) (s : State) : Prop where
  init : s.cfgInit = true
  moves : 0 < byteCount a cw
  range : s.rangeCheck = true → inRange a cw s.cfgCapKbit.toNat = true

/-- The reference device is attached and unmarked, the data frame is one it understands (R67, R222), nothing is given
to it by hand, and a valid mode cache is its mode register (R25). -/
structure WellAttached (a : Access) (s : State) : Prop where
  bus : s.bus = .device
  good : s.dev.bad = false
  dir : usesDir a s.dirOpcodeMulti = true
  width : addrBytes s.cfgAddr3 = s.dev.addrBytes
  cap : 1 ≤ s.dev.capKbit
  mirror : s.mcV = true → s.dev.dmode = .written s.mcVal

/-- The device address of data byte j of the command cw (R64, R65): DADDR in the command's mode, from the address as
the frame carries it. -/
def byteAddress (a : Access) (cw : CmdWord) (s : State) (j : Nat) : Option Nat :=
  daddr (modeOf a) s.dev.capBytes (sentAddr s.cfgAddr3 (cwAddr cw)) j

/-- The bytes the device holds at the command's addresses, in the order they are read (R64). -/
def storedBytes (a : Access) (cw : CmdWord) (s : State) : List Byte :=
  (List.range (byteCount a cw)).map fun j =>
    match byteAddress a cw s j with
    | some x => s.dev.read x
    | none => 0

/-! ### Counts over the trace (R228) -/

/-- Is the event a byte transfer? -/
def isTransfer : Event → Bool
  | .xfer _ => true
  | .xferKeep _ _ => true
  | .accept _ => false
  | .sel => false
  | .desel => false
  | .wd _ => false
  | .rd _ => false
  | .rsp _ _ => false
  | .reset => false

/-- Is the event a chip-select edge? -/
def isEdge : Event → Bool
  | .sel => true
  | .desel => true
  | .accept _ => false
  | .xfer _ => false
  | .xferKeep _ _ => false
  | .wd _ => false
  | .rd _ => false
  | .rsp _ _ => false
  | .reset => false

/-- Is the event an ACCEPT? -/
def isAccept : Event → Bool
  | .accept _ => true
  | .sel => false
  | .desel => false
  | .xfer _ => false
  | .xferKeep _ _ => false
  | .wd _ => false
  | .rd _ => false
  | .rsp _ _ => false
  | .reset => false

/-- The elements a trace delivered on the read-data stream, in order. -/
def delivered : List Event → List Data
  | [] => []
  | .rd e :: rest => e :: delivered rest
  | _ :: rest => delivered rest

/-- A command word with its WDATA field replaced (R70). -/
def withWdata (cw : CmdWord) (w : Data) : CmdWord := cmdWord w (cwCount cw) (cwAddr cw) (cwOp cw)

/-- A state with the WDATA of the latched command, and of every ACCEPT of the trace, set to 0: what is left when the
ignored data field is not looked at (R72, R77). -/
def forgetWdata (s : State) : State :=
  { s.withoutScratch with
    cur := withWdata s.cur 0
    trace :=
      s.trace.map fun e =>
        match e with
        | .accept cw => .accept (withWdata cw 0)
        | e => e }

/-- A list of bytes shifted into the reference device, one transfer after the other: the bytes it returns, and its
next state. -/
def shiftIn : List Byte → Device → List Byte × Device
  | [], d => ([], d)
  | b :: rest, d => ((d.byte b).1 :: (shiftIn rest (d.byte b).2).1, (shiftIn rest (d.byte b).2).2)

/-- The address a list of address bytes spells, most significant first (R49, R64). -/
def bigEndian (bs : List Byte) : Nat := bs.foldl (fun a b => a * 256 + b.toNat) 0

/-- A reserved OP value (R74). -/
def reservedOp (op : Byte) : Bool :=
  op == 0x06 || op == 0x07 || op == 0x0E || op == 0x0F
    || (0x12 ≤ op.toNat && op.toNat ≤ 0x17) || 0x19 ≤ op.toNat

/-- The CORE waits for another agent (R223): in a transfer for the BUS, in DATA_LD for an element, in DATA_ST and in
RSP for the HOST. In the first three chip-select stays asserted. -/
def waitsForAgent (s : State) : Prop :=
  s.csAct = true ∧ xferReq s = true ∧ s.bus = .oracle []
    ∨ s.csAct = true ∧ wdReady s = true ∧ s.wdIn = []
    ∨ s.csAct = true ∧ rdValid s = true ∧ s.rdReady.take = none
    ∨ rspValid s = true ∧ s.rspReady.take = none

/-- An outcome with a function applied to its next state. -/
def onNext (f : State → State) :
    Host.Outcome State Fault Refusal → Host.Outcome State Fault Refusal
  | .next s => .next (f s)
  | .fault r => .fault r
  | .refused r => .refused r

end Sys2Proof.Safety
end

