-- ==== Sys2Proof/WellFormed.lean ====
section
/-! DEFINITION. Which terms of Instr the hardware has: INIT only with a legal capacity, and reserved_illegal only
with a word that is not legal (30_encoding.md R75, R76). Every other constructor's operands are free. -/

namespace Sys2Proof

/-- The terms that are some word's decoding. -/
def wellFormed : Instr → Bool
  | .wr8 _ _ => true
  | .rd8 _ _ => true
  | .wr16 _ _ => true
  | .rd16 _ _ => true
  | .wr32 _ _ => true
  | .rd32 _ _ => true
  | .wrblk8 _ _ _ => true
  | .rdblk8 _ _ _ => true
  | .wrblk16 _ _ _ => true
  | .rdblk16 _ _ _ => true
  | .wrblk32 _ _ _ => true
  | .rdblk32 _ _ _ => true
  | .wrpage _ _ => true
  | .rdpage _ _ => true
  | .init c _ => 1 ≤ c.toNat && c.toNat ≤ Config.capMaxKbit
  | .reservedIllegal cw => !legal cw
  | .devWrmr => true
  | .devWrite => true
  | .devRead => true
  | .devRdmr => true

end Sys2Proof
end

