-- ==== Sys2Proof/Certificates/Slice0/Obligations.lean ====
section
/-! DEFINITION. The statements for the provers, from the spec's numbered rules. -/

open Sys2Proof Sys2Proof.Machine Sys2Proof.Safety

/-! ### Encoding -/

/-- Decoding the encoding of a well-formed instruction gives it back, every operand at every value (R70, R74, R80,
R88). -/
def Obligations.DecodeInvertsEncode : Prop :=
  ∀ i, wellFormed i = true → decode (encode i) = .ok i

/-- Encoding what a command word decodes to gives the word back, its ignored fields among its bits (R28, R78). -/
def Obligations.EncodeInvertsDecodeOfCommandWords : Prop :=
  ∀ cw, encode (decodeCmd cw) = .cmd80 cw

/-- R78: every 80-bit word decodes, to a read or write command or INIT when it is legal and to the illegal case when
it is not, and to nothing else. -/
def Obligations.EveryWordIsOneLegalCommandOrIllegal : Prop :=
  ∀ cw,
    decode (.cmd80 cw) = .ok (decodeCmd cw)
      ∧ wellFormed (decodeCmd cw) = true
      ∧ (legal cw = true ↔
          (accessOf (decodeCmd cw)).isSome = true ∨ ∃ c h, decodeCmd cw = .init c h)
      ∧ (legal cw = false ↔ decodeCmd cw = .reservedIllegal cw)

/-- R74, row by row: what each OP value decodes to, with its must-be-0 fields 0, and every reserved OP value. -/
def Obligations.OpcodeMapNamesEachCommand : Prop :=
  ∀ (w : Data) (n : Count) (a : Addr) (op : Byte) (h : Bool),
    decodeCmd (cmdWord w 0 a 0x00) = .wr8 a w
      ∧ decodeCmd (cmdWord w 0 a 0x01) = .rd8 a w
      ∧ decodeCmd (cmdWord w 0 a 0x02) = .wr16 a w
      ∧ decodeCmd (cmdWord w 0 a 0x03) = .rd16 a w
      ∧ decodeCmd (cmdWord w 0 a 0x04) = .wr32 a w
      ∧ decodeCmd (cmdWord w 0 a 0x05) = .rd32 a w
      ∧ decodeCmd (cmdWord w n a 0x08) = .wrblk8 a n w
      ∧ decodeCmd (cmdWord w n a 0x09) = .rdblk8 a n w
      ∧ decodeCmd (cmdWord w n a 0x0A) = .wrblk16 a n w
      ∧ decodeCmd (cmdWord w n a 0x0B) = .rdblk16 a n w
      ∧ decodeCmd (cmdWord w n a 0x0C) = .wrblk32 a n w
      ∧ decodeCmd (cmdWord w n a 0x0D) = .rdblk32 a n w
      ∧ decodeCmd (cmdWord w 0 a 0x10) = .wrpage a w
      ∧ decodeCmd (cmdWord w 0 a 0x11) = .rdpage a w
      ∧ (1 ≤ a.toNat → a.toNat ≤ 131072 →
          decodeCmd (cmdWord (if h then 1 else 0) 0 a 0x18) = .init a h)
      ∧ (reservedOp op = true →
          decodeCmd (cmdWord w n a op) = .reservedIllegal (cmdWord w n a op))

/-- R71: the OP byte of a read or write command is {000, KIND, ESZ, DIR}. -/
def Obligations.OpcodeIsKindWidthDirection : Prop :=
  ∀ i a cw, accessOf i = some a → commandWord i = some cw → cwOp cw = opCode a.kind a.width a.read

/-- R80: the four device instruction bytes, and no other byte. -/
def Obligations.DeviceBytesDecode : Prop :=
  ∀ b i,
    decodeDev b = some i ↔
      b = 0x01 ∧ i = .devWrmr ∨ b = 0x02 ∧ i = .devWrite ∨ b = 0x03 ∧ i = .devRead
        ∨ b = 0x05 ∧ i = .devRdmr

/-- Words written out from R70 and R74 (vectors V-D1, V-D7, V-D9 to V-D14, V-D16 and program P3). -/
def Obligations.SpecWordsDecode : Prop :=
  decodeCmd 0x00000000000000000006 = .reservedIllegal 0x00000000000000000006
    ∧ decodeCmd 0x00000000000100001001 = .reservedIllegal 0x00000000000100001001
    ∧ decodeCmd 0xFFFFFFFF000000001000 = .wr8 0x000010 0xFFFFFFFF
    ∧ decodeCmd 0x12345678FFFF00000009 = .rdblk8 0x000000 0xFFFF 0x12345678
    ∧ decodeCmd 0x00000000000000000018 = .reservedIllegal 0x00000000000000000018
    ∧ decodeCmd 0x00000000000002000018 = .init 131072 false
    ∧ decodeCmd 0x00000000000002000118 = .reservedIllegal 0x00000000000002000118
    ∧ decodeCmd 0x00000002000000010018 = .reservedIllegal 0x00000002000000010018
    ∧ decodeCmd 0x00000001000000010018 = .init 256 true
    ∧ decodeCmd 0x00000000000000001C10 = .wrpage 0x00001C 0

/-- R88: the word of an assembler line decodes to the command the line names. -/
def Obligations.AssembledLinesDecode : Prop :=
  ∀ (a : Addr) (v : Data) (n : Count) (wd : List Data) (h : Bool),
    (1 ≤ a.toNat → a.toNat ≤ 131072 → decodeCmd (assemble (.init a h)) = .init a h)
      ∧ decodeCmd (assemble (.readScalar .one a)) = .rd8 a 0
      ∧ decodeCmd (assemble (.readScalar .two a)) = .rd16 a 0
      ∧ decodeCmd (assemble (.readScalar .four a)) = .rd32 a 0
      ∧ decodeCmd (assemble (.writeScalar .one a v)) = .wr8 a v
      ∧ decodeCmd (assemble (.writeScalar .two a v)) = .wr16 a v
      ∧ decodeCmd (assemble (.writeScalar .four a v)) = .wr32 a v
      ∧ decodeCmd (assemble (.readBlock .one a n)) = .rdblk8 a n 0
      ∧ decodeCmd (assemble (.readBlock .two a n)) = .rdblk16 a n 0
      ∧ decodeCmd (assemble (.readBlock .four a n)) = .rdblk32 a n 0
      ∧ decodeCmd (assemble (.writeBlock .one a n wd)) = .wrblk8 a n 0
      ∧ decodeCmd (assemble (.writeBlock .two a n wd)) = .wrblk16 a n 0
      ∧ decodeCmd (assemble (.writeBlock .four a n wd)) = .wrblk32 a n 0
      ∧ decodeCmd (assemble (.readPage a)) = .rdpage a 0
      ∧ decodeCmd (assemble (.writePage a wd)) = .wrpage a 0

/-- R77: a control field that must be 0 makes a command illegal when it is not 0; an ignored data field has no
effect of any kind. WDATA of every command but scalar writes and INIT, and the bits of a narrow scalar write above its
value, change nothing but CUR and the ACCEPT event that carry them. -/
def Obligations.IgnoredFieldsHaveNoEffect : Prop :=
  (∀ cw,
      (cwOp cw).toNat ≤ 0x05 ∨ cwOp cw = 0x10 ∨ cwOp cw = 0x11 ∨ cwOp cw = 0x18 →
        cwCount cw ≠ 0 → legal cw = false)
    ∧ (∀ cw, cwOp cw = 0x18 → (cwWdata cw).extractLsb' 1 31 ≠ 0 → legal cw = false)
    ∧ ∀ (s : State) (a : Addr) (n : Count) (w w' : Data),
      s.ph = .idle →
        (∀ make : Addr → Data → Instr,
            make = .rd8 ∨ make = .rd16 ∨ make = .rd32 ∨ make = .rdpage ∨ make = .wrpage →
              onNext forgetWdata (exec (make a w) s) = onNext forgetWdata (exec (make a w') s))
          ∧ (∀ make : Addr → Count → Data → Instr,
              make = .rdblk8 ∨ make = .rdblk16 ∨ make = .rdblk32 ∨ make = .wrblk8
                  ∨ make = .wrblk16 ∨ make = .wrblk32 →
                onNext forgetWdata (exec (make a n w) s) = onNext forgetWdata (exec (make a n w') s))
          ∧ (w.extractLsb' 0 8 = w'.extractLsb' 0 8 →
              onNext forgetWdata (exec (.wr8 a w) s) = onNext forgetWdata (exec (.wr8 a w') s))
          ∧ (w.extractLsb' 0 16 = w'.extractLsb' 0 16 →
              onNext forgetWdata (exec (.wr16 a w) s) = onNext forgetWdata (exec (.wr16 a w') s))

/-! ### What CHECK answers -/

/-- R158: a word that is not LEGAL is answered ERR_ILLEGAL (1) with value 0. Nothing else changes but CUR and the
response: before and after INIT alike, no bus event, no element taken, MC as it was. -/
def Obligations.ReservedCommandAnswersIllegal : Prop :=
  statusCode .errIllegal = 1
    ∧ ∀ (s : State) (cw : CmdWord),
      legal cw = false → s.ph = .idle → s.resetIn = none → s.rspReady = .always →
        decodeCmd cw = .reservedIllegal cw
          ∧ exec (.reservedIllegal cw) s = .next (answered s cw .errIllegal)

/-- R155: INIT with a legal capacity latches the configuration, clears the mode cache and responds OK, with no bus
event; a word with OP = INIT and a bad field is answered ERR_ILLEGAL and changes neither CFG nor MC. -/
def Obligations.InitLatchesTheConfiguration : Prop :=
  ∀ s : State, s.ph = .idle → s.csAct = false → s.resetIn = none → s.rspReady = .always →
    (∀ (cap : Addr) (h : Bool), 1 ≤ cap.toNat → cap.toNat ≤ 131072 →
      exec (.init cap h) s = .next
        { answered s (cmdWord (if h then 1 else 0) 0 cap 0x18) .ok with
          cfgInit := true
          cfgCapKbit := cap
          cfgAddr3 := decide (512 < cap.toNat)
          cfgHoldEn := h
          mcV := false
          mcVal := 0x00 }
        ∧ capBytes cap.toNat = cap.toNat * 128)
      ∧ ∀ cw : CmdWord, cwOp cw = 0x18 →
        (cwAddr cw).toNat = 0 ∨ 131072 < (cwAddr cw).toNat ∨ cwCount cw ≠ 0
            ∨ (cwWdata cw).extractLsb' 1 31 ≠ 0 →
          exec (decodeCmd cw) s = .next (answered s cw .errIllegal)

/-- R187: every read or write command before the first successful INIT is answered ERR_NOT_INIT with value 0; INIT
never is. -/
def Obligations.CommandsBeforeInitAreRefused : Prop :=
  ∀ s : State, s.cfgInit = false → s.ph = .idle → s.resetIn = none → s.rspReady = .always →
    (∀ i a cw, accessOf i = some a → commandWord i = some cw →
        exec i s = .next (answered s cw .errNotInit))
      ∧ ∀ cap h t, exec (.init cap h) s = .next t → t.rspSt ≠ .errNotInit

/-- R148: a block command with COUNT = 0 after INIT responds OK and does nothing else, wherever its address is. -/
def Obligations.ZeroCountBlockIsANoOp : Prop :=
  ∀ (i : Instr) (a : Access) (cw : CmdWord) (s : State),
    accessOf i = some a → a.kind = .block → commandWord i = some cw → cwCount cw = 0 →
      s.cfgInit = true → s.ph = .idle → s.resetIn = none → s.rspReady = .always →
        exec i s = .next (answered s cw .ok)

/-- R189: with RANGE_CHECK = 1 a command that moves something is answered ERR_RANGE exactly when its bytes reach
CAP_BYTES (a page: when its start does), in exact arithmetic; with RANGE_CHECK = 0 CHECK never answers ERR_RANGE. -/
def Obligations.OutOfRangeCommandsAreRefused : Prop :=
  ∀ (i : Instr) (a : Access) (cw : CmdWord) (s : State),
    accessOf i = some a → commandWord i = some cw →
      s.cfgInit = true → s.ph = .idle → s.resetIn = none → s.rspReady = .always →
        0 < byteCount a cw →
          (s.rangeCheck = true →
              (if a.kind = .page then s.cfgCapKbit.toNat * 128 ≤ (cwAddr cw).toNat
                else s.cfgCapKbit.toNat * 128 < (cwAddr cw).toNat + byteCount a cw) →
                exec i s = .next (answered s cw .errRange))
            ∧ (verdict (.access a) (accept cw s) = .respond .errRange ↔
                s.rangeCheck = true
                  ∧ if a.kind = .page then s.cfgCapKbit.toNat * 128 ≤ (cwAddr cw).toNat
                    else s.cfgCapKbit.toNat * 128 < (cwAddr cw).toNat + byteCount a cw)

/-- R190: the order of the conditions CHECK tests, on the command in CUR. -/
def Obligations.CheckTestsInFixedOrder : Prop :=
  ∀ s : State, s.ph = .check →
    advance (cmdOf (decodeCmd s.cur)) s = .go
      (if legal s.cur = false then respond .errIllegal s
        else if cwOp s.cur = 0x18 then respond .ok (doInit s)
        else
          match accessOf (decodeCmd s.cur) with
          | none => respond .errIllegal s
          | some a =>
            if s.cfgInit = false then respond .errNotInit s
            else if byteCount a s.cur = 0 then respond .ok s
            else if s.rangeCheck = true ∧ inRange a s.cur s.cfgCapKbit.toNat = false then
              respond .errRange s
            else { s with m := requestedMode a s.cfgHoldEn, rspRd := 0, ph := .sel })

/-! ### What the commands do, for every answer of the BUS -/

/-- RD8, RD16, RD32 (R130, R132, R134): the command completes OK; its value is the bytes the BUS answers in the data
phase, the first least significant; the bus events are the mode-write frame on a miss, the direction byte, the address
and one dummy byte for each byte read. Everything but CUR, M, MC, the response and the sequencer's scratch registers is
unchanged. -/
def Obligations.ScalarReadsReturnTheReceivedBytes : Prop :=
  ∀ (i : Instr) (a : Access) (cw : CmdWord) (s : State) (opening data rest : List Byte),
    accessOf i = some a → a.kind = .scalar → a.read = true → commandWord i = some cw →
      Willing s → Admitted a cw s →
        s.bus = .oracle (opening ++ data ++ rest) →
          opening.length = openingTransfers a s → data.length = elemBytes a →
            ∃ t, exec i s = .next t
              ∧ t.withoutScratch =
                { finished a s cw (packLE data)
                    (openingEvents a (cwAddr cw) s ++ data.map (Event.xferKeep Config.dummyTx)
                      ++ [Event.desel]) with
                  bus := .oracle rest }.withoutScratch

/-- WR8, WR16, WR32 (R131, R133, R135): the command completes OK with value 0; it sends the low bytes of WDATA, least
significant first, after the opening, and every received byte is discarded. -/
def Obligations.ScalarWritesSendTheirBytes : Prop :=
  ∀ (i : Instr) (a : Access) (cw : CmdWord) (s : State) (answers rest : List Byte),
    accessOf i = some a → a.kind = .scalar → a.read = false → commandWord i = some cw →
      Willing s → Admitted a cw s →
        s.bus = .oracle (answers ++ rest) →
          answers.length = openingTransfers a s + elemBytes a →
            ∃ t, exec i s = .next t
              ∧ t.withoutScratch =
                { finished a s cw 0
                    (openingEvents a (cwAddr cw) s
                      ++ (unpackLE (cwWdata cw) (elemBytes a)).map Event.xfer ++ [Event.desel]) with
                  bus := .oracle rest }.withoutScratch

/-- RDBLK8, RDBLK16, RDBLK32 and RDPAGE (R140, R142, R144, R146): N elements (32 for a page) in one data frame with
one address frame; each element goes to the read-data stream right after its last byte; the response value is 0. -/
def Obligations.BlockAndPageReadsDeliverTheirElements : Prop :=
  ∀ (i : Instr) (a : Access) (cw : CmdWord) (s : State) (opening data rest : List Byte),
    accessOf i = some a → a.kind ≠ .scalar → a.read = true → commandWord i = some cw →
      Willing s → Admitted a cw s →
        s.bus = .oracle (opening ++ data ++ rest) →
          opening.length = openingTransfers a s → data.length = byteCount a cw →
            ∃ t, exec i s = .next t
              ∧ t.withoutScratch =
                { finished a s cw 0
                    (openingEvents a (cwAddr cw) s ++ readEvents a (elemCount a cw) data
                      ++ [Event.desel]) with
                  bus := .oracle rest }.withoutScratch

/-- WRBLK8, WRBLK16, WRBLK32 and WRPAGE (R141, R143, R145, R147): N elements (32 for a page) in one data frame with
one address frame; each element is taken from the write-data stream right before its first byte; elements beyond N stay
offered. -/
def Obligations.BlockAndPageWritesSendTheirElements : Prop :=
  ∀ (i : Instr) (a : Access) (cw : CmdWord) (s : State) (answers rest : List Byte)
    (es more : List Data),
    accessOf i = some a → a.kind ≠ .scalar → a.read = false → commandWord i = some cw →
      Willing s → Admitted a cw s →
        s.bus = .oracle (answers ++ rest) →
          answers.length = openingTransfers a s + byteCount a cw →
            s.wdIn = es ++ more → es.length = elemCount a cw →
              ∃ t, exec i s = .next t
                ∧ t.withoutScratch =
                  { finished a s cw 0
                      (openingEvents a (cwAddr cw) s ++ writeEvents a es ++ [Event.desel]) with
                    bus := .oracle rest
                    wdIn := more }.withoutScratch

/-! ### What the commands do on the reference device -/

/-- Every read command on the reference device (R64, R65): the bytes read are those the device holds at DADDR(a, 0),
DADDR(a, 1), ...; no byte of the device changes (R55), and its mode register is the requested mode. -/
def Obligations.ReadsReturnWhatTheDeviceHolds : Prop :=
  ∀ (i : Instr) (a : Access) (cw : CmdWord) (s : State),
    accessOf i = some a → a.read = true → commandWord i = some cw →
      Willing s → Admitted a cw s → WellAttached a s →
        ∃ t, exec i s = .next t
          ∧ { t with dev := s.dev }.withoutScratch =
            (finished a s cw (if a.kind = .scalar then packLE (storedBytes a cw s) else 0)
              (openingEvents a (cwAddr cw) s
                ++ readEvents a (elemCount a cw) (storedBytes a cw s) ++ [Event.desel])).withoutScratch
          ∧ t.dev.mem = s.dev.mem
          ∧ (∀ x, t.dev.read x = s.dev.read x)
          ∧ t.dev.bad = false
          ∧ t.dev.capKbit = s.dev.capKbit
          ∧ t.dev.dmode = .written (requestedMode a s.cfgHoldEn)

/-- Every write command on the reference device (R64, R65): data byte j is stored at DADDR(a, j), in the mode of the
command; every other byte of the device stays as it was. The elements are WDATA for a scalar, and the first N offered
on the write-data stream otherwise. -/
def Obligations.WritesStoreTheirBytesAndNoOther : Prop :=
  ∀ (i : Instr) (a : Access) (cw : CmdWord) (s : State) (es more : List Data),
    accessOf i = some a → a.read = false → commandWord i = some cw →
      Willing s → Admitted a cw s → WellAttached a s →
        es.length = elemCount a cw →
          (if a.kind = .scalar then es = [cwWdata cw] ∧ more = s.wdIn else s.wdIn = es ++ more) →
            ∃ t, exec i s = .next t
              ∧ { t with dev := s.dev }.withoutScratch =
                { finished a s cw 0
                    (openingEvents a (cwAddr cw) s ++ writeEvents a es ++ [Event.desel]) with
                  wdIn := more }.withoutScratch
              ∧ (∀ x, (∀ j, j < byteCount a cw → byteAddress a cw s j ≠ some x) →
                  t.dev.read x = s.dev.read x)
              ∧ (byteCount a cw ≤ s.dev.capBytes →
                  ∀ j x, j < byteCount a cw → byteAddress a cw s j = some x →
                    (es.flatMap fun e => unpackLE e (elemBytes a))[j]?
                      = some (t.dev.read x))
              ∧ t.dev.bad = false
              ∧ t.dev.capKbit = s.dev.capKbit
              ∧ t.dev.dmode = .written (requestedMode a s.cfgHoldEn)

/-- R67, R222: a data frame with no direction byte, or with an address of the wrong width, marks the reference device
BAD (at its first byte: the model's choice, log 12); the command still completes OK. -/
def Obligations.MisframedCommandsMarkTheDeviceBad : Prop :=
  ∀ (i : Instr) (a : Access) (cw : CmdWord) (s : State),
    accessOf i = some a → commandWord i = some cw → Willing s → Admitted a cw s →
      s.bus = .device →
        usesDir a s.dirOpcodeMulti = false ∨ addrBytes s.cfgAddr3 ≠ s.dev.addrBytes →
          (a.read = false → a.kind ≠ .scalar → elemCount a cw ≤ s.wdIn.length) →
            ∃ t, exec i s = .next t ∧ t.ph = .idle ∧ t.rspSt = .ok ∧ t.dev.bad = true

/-- R68: a write command followed by the read command of the same kind and width, with the same address and count,
returns what was written: a scalar in the response, the elements of a block or page in order on the read-data
stream. R68 asks that the bytes stay below CAP_BYTES; this asks only that they are no more than the device has. Where
they cross the top, or start past it (RANGE_CHECK = 0, or an INIT with too large a capacity), the clause rests on the
start modulo CAP_BYTES and the SEQUENTIAL wrap of R65, which R65 calls the reference model's choice (log 21). -/
def Obligations.WriteThenReadReturnsTheValue : Prop :=
  ∀ (i i' : Instr) (a : Access) (cw cw' : CmdWord) (s : State) (es more : List Data),
    accessOf i = some a → a.read = false → commandWord i = some cw →
      accessOf i' = some { a with read := true } → commandWord i' = some cw' →
        cwAddr cw' = cwAddr cw → cwCount cw' = cwCount cw →
          Willing s → Admitted a cw s → WellAttached a s →
            byteCount a cw ≤ s.dev.capBytes →
              es.length = elemCount a cw →
                (if a.kind = .scalar then es = [cwWdata cw] else s.wdIn = es ++ more) →
                  ∃ t u evs,
                    exec i s = .next t ∧ exec i' t = .next u ∧ u.rspSt = .ok
                      ∧ u.trace = t.trace ++ evs
                      ∧ (if a.kind = .scalar then
                          u.rspRd = lowBytes (cwWdata cw) (elemBytes a)
                        else delivered evs = es.map fun e => lowBytes e (elemBytes a))

/-- R51: after a 32-bit write at a, an 8-bit read at a + i returns byte i and a 16-bit read at a the low half; after
8-bit writes of b0 to b3 at a to a + 3, a 32-bit read at a returns {b3, b2, b1, b0}. The addresses do not cross
CAP_BYTES. -/
def Obligations.MixedWidthsAgreeByteByByte : Prop :=
  ∀ (s : State) (a : Addr) (v w w' : Data) (j : Nat) (b : Nat → Data),
    Willing s → s.cfgInit = true → WellAttached ⟨.scalar, .four, false⟩ s →
      a.toNat + 4 ≤ s.cfgCapKbit.toNat * 128 → s.cfgCapKbit.toNat ≤ s.dev.capKbit →
        a.toNat + 4 ≤ 256 ^ addrBytes s.cfgAddr3 →
          (j < 4 →
            ∃ t u x,
              exec (.wr32 a v) s = .next t
                ∧ exec (.rd8 (a + BitVec.ofNat 24 j) w) t = .next u
                ∧ u.rspRd = (byteOf v j).setWidth 32
                ∧ exec (.rd16 a w') t = .next x
                ∧ x.rspRd = v &&& 0xFFFF)
            ∧ ∃ t0 t1 t2 t3 u,
              exec (.wr8 a (b 0)) s = .next t0
                ∧ exec (.wr8 (a + 1) (b 1)) t0 = .next t1
                ∧ exec (.wr8 (a + 2) (b 2)) t1 = .next t2
                ∧ exec (.wr8 (a + 3) (b 3)) t2 = .next t3
                ∧ exec (.rd32 a w) t3 = .next u
                ∧ u.rspRd = byteOf (b 3) 0 ++ byteOf (b 2) 0 ++ byteOf (b 1) 0 ++ byteOf (b 0) 0

/-! ### The procedure and the phase FSM -/

/-- R120: the phase FSM realises the procedure EXECUTE of R119. Where the procedure completes, the FSM ends idle in
the same state, event trace, response, MC, streams and device alike, scratch registers apart. -/
def Obligations.PhaseFsmRealisesExecute : Prop :=
  ∀ (i : Instr) (cw : CmdWord) (s u : State),
    wellFormed i = true → commandWord i = some cw → s.ph = .idle → s.csAct = false → s.resetIn = none →
      procedure (cmdOf i) (accept cw s) = some u →
        ∃ t, exec i s = .next t ∧ t.withoutScratch = u.withoutScratch

/-- R119, R223: where an agent keeps the procedure waiting for ever, the FSM waits too, and gives no state in which
the command is done. -/
def Obligations.PhaseFsmWaitsWhereExecuteWaits : Prop :=
  ∀ (i : Instr) (cw : CmdWord) (s : State),
    wellFormed i = true → commandWord i = some cw → s.ph = .idle → s.csAct = false → s.resetIn = none →
      procedure (cmdOf i) (accept cw s) = none →
        ∃ t, exec i s = .next t ∧ waitsForAgent t

/-- R123: with no reset due, one move performs at most one event. In a state of the invariant the moves with no event
are CHECK, MRCMP, DATA_LD of a scalar write, and a wait, which leaves the CORE's state unchanged (the countdown to a
reset is the model's own, log 9). -/
def Obligations.AMovePerformsAtMostOneEvent : Prop :=
  (∀ (c : Cmd) (s t : State), s.resetIn ≠ some 0 → tick c s = .next t →
      t.trace = s.trace ∨ ∃ e, t.trace = s.trace ++ [e])
    ∧ (∀ s t : State, Inv s → s.resetIn ≠ some 0 → s.ph ≠ .idle →
        tick (cmdOf (decodeCmd s.cur)) s = .next t →
          (t.trace = s.trace ↔
            s.ph = .check ∨ s.ph = .mrcmp
              ∨ (s.ph = .dataLd ∧ ∃ a, accessOf (decodeCmd s.cur) = some a ∧ a.kind = .scalar)
              ∨ advance (cmdOf (decodeCmd s.cur)) s = .hold))
    ∧ ∀ (c : Cmd) (s : State), s.resetIn ≠ some 0 → advance c s = .hold →
        tick c s = .next s.passTime

/-- R223: a command the machine runs ends with the CORE idle, or waiting for the BUS in a transfer, for a write
element, for the HOST to take a read element, or for the HOST to take the response; and a wait lasts until another
agent lifts it: a further step changes nothing. That one step runs a whole command is the model's choice (log 1). -/
def Obligations.CommandsEndOrWaitForAnAgent : Prop :=
  ∀ s t : State, Inv s → s.wire = [] → step s = .next t →
    t.ph = .idle
      ∨ waitsForAgent t ∧ t.resetIn = none ∧ step t = .next t

/-- R39: a transfer event of a move carries the byte the CORE offers on xfer_tx, and comes only where xfer_req = 1. -/
def Obligations.TransfersCarryTheOfferedByte : Prop :=
  ∀ s t : State, Inv s → s.resetIn ≠ some 0 →
    tick (cmdOf (decodeCmd s.cur)) s = .next t →
      (∀ b, t.trace = s.trace ++ [.xfer b] → xferTx s = some b)
        ∧ ∀ b r, t.trace = s.trace ++ [.xferKeep b r] → xferTx s = some b

/-- R108, R24: only the move that sends the mode byte makes the cache valid, with that byte; only INIT clears it; no
other move writes it. -/
def Obligations.OnlyTheModeByteAndInitWriteTheCache : Prop :=
  ∀ (c : Cmd) (s t : State), s.resetIn ≠ some 0 → tick c s = .next t →
    (t.mcV = s.mcV ∧ t.mcVal = s.mcVal)
      ∨ (s.ph = .mrVal ∧ t.trace = s.trace ++ [.xfer s.m] ∧ t.mcV = true ∧ t.mcVal = s.m)
      ∨ (s.ph = .check ∧ c = .init ∧ t.mcV = false ∧ t.mcVal = 0x00)

/-! ### One step of the machine -/

/-- A step runs the decoded instruction: an offered command word on an idle CORE, the command in flight on a busy one,
and a device instruction byte given by hand at the start of a frame; a reset that is due comes first; an idle CORE with
nothing offered stays as it is. The command as one step (log 1), the bytes given by hand (log 10) and the countdown to
a reset (log 9) are the model's choices. -/
def Obligations.StepRunsTheDecodedInstruction : Prop :=
  (∀ (s : State) (cw : CmdWord) (rest : List CmdWord),
      s.wire = [] → s.resetIn ≠ some 0 → s.ph = .idle → s.cmdIn = cw :: rest →
        step s = exec (decodeCmd cw) { s with cmdIn := rest })
    ∧ (∀ s : State, s.wire = [] → s.resetIn ≠ some 0 → s.ph ≠ .idle →
        step s = exec (decodeCmd s.cur) s)
    ∧ (∀ (s : State) (b : Byte) (rest : List Byte) (i : Instr),
        s.wire = b :: rest → s.dev.frame = .start → decodeDev b = some i →
          step s = exec i { s with wire := rest })
    ∧ (∀ s : State, s.wire = [] → s.resetIn = some 0 → step s = .next (coreReset s))
    ∧ ∀ s : State, s.wire = [] → s.resetIn = none → s.ph = .idle → s.cmdIn = [] → step s = .next s

/-- R122: a busy CORE takes no command: no ACCEPT, and the commands offered stay offered. An idle one takes exactly
the one word. -/
def Obligations.CommandsAreTakenOnlyWhenIdle : Prop :=
  (∀ (i : Instr) (s t : State), s.ph ≠ .idle → exec i s = .next t →
      t.trace.countP isAccept = s.trace.countP isAccept ∧ t.cmdIn = s.cmdIn)
    ∧ ∀ (i : Instr) (cw : CmdWord) (s t : State), s.ph = .idle → commandWord i = some cw →
        exec i s = .next t →
          t.trace.countP isAccept = s.trace.countP isAccept + 1
            ∧ (s.trace ++ [.accept cw]) <+: t.trace

/-- R36: no step writes DIR_OPCODE_MULTI or RANGE_CHECK; nor the device's capacity. -/
def Obligations.NoStepWritesTheStaticParameters : Prop :=
  ∀ s t : State, step s = .next t →
    t.dirOpcodeMulti = s.dirOpcodeMulti ∧ t.rangeCheck = s.rangeCheck
      ∧ t.dev.capKbit = s.dev.capKbit

/-- R22: with no reset coming, no instruction but INIT changes CFG, in any state. -/
def Obligations.OnlyInitWritesTheConfiguration : Prop :=
  ∀ (i : Instr) (s t : State), (∀ c h, i ≠ .init c h) → s.resetIn = none → exec i s = .next t →
    t.cfgInit = s.cfgInit ∧ t.cfgCapKbit = s.cfgCapKbit ∧ t.cfgAddr3 = s.cfgAddr3
      ∧ t.cfgHoldEn = s.cfgHoldEn

/-- R10: no step takes an event back. -/
def Obligations.TheTraceOnlyGrows : Prop :=
  ∀ s t : State, step s = .next t → s.trace <+: t.trace

/-- R66, R202: the BAD mark is never cleared. -/
def Obligations.TheBadMarkIsNeverCleared : Prop :=
  ∀ s t : State, step s = .next t → s.dev.bad = true → t.dev.bad = true

/-- R100, R101: both chip-select primitives act once: a second call changes nothing; each makes its one event only
when the line changes. -/
def Obligations.ChipSelectPrimitivesAreIdempotent : Prop :=
  ∀ s : State,
    csAssert (csAssert s) = csAssert s
      ∧ csDeassert (csDeassert s) = csDeassert s
      ∧ (csAssert s).csAct = true
      ∧ (csDeassert s).csAct = false
      ∧ (csAssert s).trace = s.trace ++ (if s.csAct then [] else [.sel])
      ∧ (csDeassert s).trace = s.trace ++ (if s.csAct then [.desel] else [])

/-- R228: the bus cost of every command that completes: transfers and chip-select edges of a read or write command
that passes CHECK, and none for a command that ends in CHECK. -/
def Obligations.BusCostOfEachCommand : Prop :=
  ∀ (i : Instr) (cw : CmdWord) (s t : State),
    commandWord i = some cw → wellFormed i = true → Willing s → exec i s = .next t → t.ph = .idle →
      (∀ a, accessOf i = some a → Admitted a cw s →
          t.trace.countP isTransfer =
              s.trace.countP isTransfer + (if cacheMiss a s then 2 else 0)
                + (if usesDir a s.dirOpcodeMulti then 1 else 0) + addrBytes s.cfgAddr3
                + byteCount a cw
            ∧ t.trace.countP isEdge = s.trace.countP isEdge + (if cacheMiss a s then 4 else 2))
        ∧ ((∀ a, accessOf i = some a → ¬ Admitted a cw s) →
            t.trace.countP isTransfer = s.trace.countP isTransfer
              ∧ t.trace.countP isEdge = s.trace.countP isEdge)

/-! ### Reset -/

/-- R38: the state after reset, and the handshake outputs in it. -/
def Obligations.ResetLeavesTheStatedValues : Prop :=
  State.reset.cfgInit = false ∧ State.reset.cfgCapKbit = 0 ∧ State.reset.cfgAddr3 = false
    ∧ State.reset.cfgHoldEn = false ∧ State.reset.mcV = false ∧ State.reset.mcVal = 0x00
    ∧ State.reset.csAct = false ∧ csN State.reset = true
    ∧ phaseCode State.reset.ph = 0 ∧ State.reset.ph = .idle
    ∧ State.reset.cur = 0 ∧ State.reset.ai = 0 ∧ State.reset.k = 0 ∧ State.reset.i = 0
    ∧ State.reset.acc = 0 ∧ State.reset.ebuf = 0 ∧ State.reset.m = 0
    ∧ statusCode State.reset.rspSt = 0 ∧ State.reset.rspRd = 0
    ∧ cmdReady State.reset = true ∧ wdReady State.reset = false ∧ rdValid State.reset = false
    ∧ rspValid State.reset = false ∧ xferReq State.reset = false

/-- R215, R217: a reset that is due comes in any phase. It leaves every state element at its reset value, MC invalid
and the CORE idle, gives no response, and emits DESEL exactly when chip-select was asserted; the static parameters and
what the other agents offer stay. Then a read or write command is answered ERR_NOT_INIT. That the RESET event itself
stands in the trace, before DESEL, is the model's choice (log 2). -/
def Obligations.ResetComesInAnyPhase : Prop :=
  ∀ s : State, s.wire = [] → s.resetIn = some 0 →
    ∃ t, step s = .next t
      ∧ { t with dev := s.dev } =
        { State.reset with
          dirOpcodeMulti := s.dirOpcodeMulti
          rangeCheck := s.rangeCheck
          cmdIn := s.cmdIn
          wdIn := s.wdIn
          rdReady := s.rdReady
          rspReady := s.rspReady
          bus := s.bus
          dev := s.dev
          wire := s.wire
          wireOut := s.wireOut
          trace := s.trace ++ .reset :: (if s.csAct then [.desel] else []) }
      ∧ ∀ i a cw, s.rspReady = .always → accessOf i = some a → commandWord i = some cw →
        exec i t = .next (answered t cw .errNotInit)

/-- R216: of a write command that a reset cuts, the device keeps every byte but those from the cut onward; a reset
during any other command changes no byte of the device. That is so where the reset cut no byte the device was about to
take as an instruction or a mode byte, and did not mark the device BAD by ending a frame inside its address (R66): in
those cases every byte of the device is any value. What a cut byte, and a cut before the data phase, can reach is the
model's reading (log 13). -/
def Obligations.ResetCutLosesOnlyTheBytesFromTheCutOn : Prop :=
  ∀ s : State, (coreReset s).dev.bad = false →
    ¬ (bytePending s.ph = true ∧ (s.dev.frame = .start ∨ s.dev.frame = .modeVal)) →
    (∀ a n, s.flight = some a → a.read = false → bytesSent a s = some n →
        ∀ x,
          (∀ j, n ≤ j → j < byteCount a s.cur → byteAddress a s.cur s j ≠ some x) →
            (coreReset s).dev.read x = s.dev.read x)
      ∧ ((∀ a, s.flight = some a → a.read = true ∨ bytesSent a s = none) →
          ∀ x, (coreReset s).dev.read x = s.dev.read x)

/-! ### Invariants -/

/-- The invariant of the CORE holds after reset. -/
def Obligations.InvariantHoldsAtReset : Prop := Inv State.reset

/-- Every step keeps the invariant: R23 (a latched configuration is legal), R24 (a valid cache holds a mode), R102 and
R103 (SEL and DESEL alternate, bytes move only between them, responses come only outside), R121 (counters in range) and
the canonical form of DMEM. -/
def Obligations.StepKeepsTheInvariant : Prop :=
  ∀ s t : State, Inv s → step s = .next t → Inv t

/-- R121: from a state of the invariant no step faults, so
PH = 15 and a state without a row (the model's own fault, log 14) are not reached. -/
def Obligations.NoFaultFromTheInvariant : Prop :=
  ∀ s : State, Inv s → ∃ t, step s = .next t

/-- R121, R202: a machine in PH = 15 faults with UNREACHABLE_PHASE, whatever command is latched. -/
def Obligations.ReservedPhaseFaults : Prop :=
  ∀ s : State, s.ph = .reserved → s.wire = [] → s.resetIn = none →
    step s = .fault .unreachablePhase

/-- The mode cache mirrors the device after reset. -/
def Obligations.CacheMirrorHoldsAtReset : Prop := CacheMirrorsDevice State.reset

/-- R25, R61, R104, R219: under single ownership every step keeps the mode cache, when valid, equal to the device's
mode register, as long as the device has no BAD mark. -/
def Obligations.StepKeepsTheCacheMirror : Prop :=
  ∀ s t : State, Inv s → CacheMirrorsDevice s → step s = .next t → CacheMirrorsDevice t

/-- With DIR_OPCODE_MULTI = 1 the first byte of every frame so far is INS_WRMR, INS_READ or INS_WRITE; it holds after
reset. -/
def Obligations.FrameHeadsHoldAtReset : Prop := HeadsInv State.reset

/-- R83, R86: every step keeps it, so with DIR_OPCODE_MULTI = 1 the CORE never sends Read Mode Register as an
instruction. -/
def Obligations.StepKeepsTheFrameHeads : Prop :=
  ∀ s t : State, Inv s → HeadsInv s → step s = .next t → HeadsInv t

/-! ### The reference device -/

/-- R80: the four device instructions at the start of a frame, on a device without a BAD mark: the byte moves, 0x00
comes back, the frame parser goes on as the instruction says, and nothing else changes. That the byte is given by hand,
and wireOut, are the model's own (log 10); the 0x00 is the reference model's for the first three and the model's choice
for Read Mode Register (log 6, log 24); that Read Mode Register goes on to return DMODE is the spec's general knowledge
(G4; log 21). -/
def Obligations.DeviceInstructionsOpenTheirFrame : Prop :=
  ∀ s : State, s.dev.bad = false → s.dev.frame = .start →
    exec .devWrmr s = .next
        { s with dev := { s.dev with frame := .modeVal }, wireOut := s.wireOut ++ [0x00] }
      ∧ exec .devWrite s = .next
        { s with
          dev := { s.dev with frame := .addr false s.dev.addrBytes 0 }
          wireOut := s.wireOut ++ [0x00] }
      ∧ exec .devRead s = .next
        { s with
          dev := { s.dev with frame := .addr true s.dev.addrBytes 0 }
          wireOut := s.wireOut ++ [0x00] }
      ∧ exec .devRdmr s = .next
        { s with dev := { s.dev with frame := .rdmr }, wireOut := s.wireOut ++ [0x00] }

/-- R63, R66: a mode-write frame writes its second byte to DMODE, whatever it is; which mode it is, HOLD or not; a value
that is no mode, and any byte after it, is BAD. That DMODE still holds the second byte after such an extra byte, and
that a marked device still takes a mode write, are the model's reading of R63 and R66 (DEDUCED, log 12). -/
def Obligations.ModeWriteFrameWritesDmode : Prop :=
  (∀ (d : Device) (b x : Byte), d.frame = .start →
      (shiftIn [0x01, b] d).2.dmode = .written b
        ∧ (shiftIn [0x01, b, x] d).2.dmode = .written b
        ∧ (shiftIn [0x01, b, x] d).2.bad = true)
    ∧ ∀ (d : Device) (b : Byte), d.bad = false → d.frame = .start →
    (b &&& 0xFE = 0x00 ∨ b &&& 0xFE = 0x40 ∨ b &&& 0xFE = 0x80 →
        (shiftIn [0x01, b] d).1 = [0x00, 0x00]
          ∧ (shiftIn [0x01, b] d).2 = { d with dmode := .written b, frame := .modeDone })
      ∧ (b &&& 0xFE = 0x00 → modeOfByte b = some .byte)
      ∧ (b &&& 0xFE = 0x40 → modeOfByte b = some .sequential)
      ∧ (b &&& 0xFE = 0x80 → modeOfByte b = some .page)
      ∧ (¬ (b &&& 0xFE = 0x00 ∨ b &&& 0xFE = 0x40 ∨ b &&& 0xFE = 0x80) →
          (shiftIn [0x01, b] d).2.bad = true)

/-- R64: a READ frame returns the bytes at DADDR(a, 0), DADDR(a, 1), ...; a WRITE frame stores its bytes there and
nowhere else. The address is the ABYTES bytes after the instruction, most significant first. -/
def Obligations.DataFrameReadsAndWritesDmem : Prop :=
  ∀ (d : Device) (m : Byte) (mode : Mode) (addr data : List Byte),
    d.bad = false → d.frame = .start → d.dmode = .written m → modeOfByte m = some mode →
      addr.length = d.addrBytes → 1 ≤ d.capKbit →
        (mode = .byte → data.length ≤ 1) →
          (shiftIn (0x03 :: addr ++ data) d).1.drop (1 + d.addrBytes) =
              (List.range data.length).map
                (fun j =>
                  match daddr mode d.capBytes (bigEndian addr) j with
                  | some x => d.read x
                  | none => 0)
            ∧ (shiftIn (0x03 :: addr ++ data) d).2 =
                { d with frame := .data true (bigEndian addr) data.length }
            ∧ (shiftIn (0x02 :: addr ++ data) d).2.bad = false
            ∧ (shiftIn (0x02 :: addr ++ data) d).2.dmode = d.dmode
            ∧ (shiftIn (0x02 :: addr ++ data) d).2.capKbit = d.capKbit
            ∧ (∀ x,
                (∀ j, j < data.length → daddr mode d.capBytes (bigEndian addr) j ≠ some x) →
                  (shiftIn (0x02 :: addr ++ data) d).2.read x = d.read x)
            ∧ (data.length ≤ d.capBytes → (mode = .page → data.length ≤ 32) →
                ∀ j x, j < data.length → daddr mode d.capBytes (bigEndian addr) j = some x →
                  data[j]? = some ((shiftIn (0x02 :: addr ++ data) d).2.read x))

/-- R65: the address sequence, as the rule writes it with masks. The start taken modulo CAP_BYTES and the SEQUENTIAL
wrap are the reference model's choice, the wrap from general knowledge (D30, G3; log 21). -/
def Obligations.AddressSequenceOfEachMode : Prop :=
  ∀ cap a j : Nat, 0 < cap → cap ≤ 2 ^ 24 →
    daddr .sequential cap a j = some ((a % cap + j) % cap)
      ∧ daddr .page cap a j =
        some (((a % cap) &&& (2 ^ 24 - 1 - 0x1F) ||| ((a % cap + j) &&& 0x1F)) % cap)
      ∧ daddr .byte cap a 0 = some (a % cap)
      ∧ (1 ≤ j → daddr .byte cap a j = none)

/-- R65, R189: on a device of any capacity in kilobits a page never straddles the top: every address of a page
transfer lies in the device and in the 32-byte page of the first, and 32 transfers reach 32 different bytes. -/
def Obligations.PageTransfersStayInTheirPage : Prop :=
  ∀ kbit a j j' : Nat, 1 ≤ kbit →
    ∃ x x' x0, daddr .page (capBytes kbit) a j = some x ∧ daddr .page (capBytes kbit) a j' = some x'
      ∧ daddr .page (capBytes kbit) a 0 = some x0
      ∧ x < capBytes kbit ∧ x / 32 = x0 / 32
      ∧ (x = x' ↔ j % 32 = j' % 32)

/-- R66: what is BAD: an unknown first byte, a second data byte in BYTE mode, a frame that ends inside its address. A
device with the mark keeps it over every byte, SEL and DESEL, returns a free value for every byte (log 6) and holds a
free value at every address (log 12); its DMODE changes with the mode byte of a mode-write frame and with no other byte.
Read Mode Register returns DMODE on every later byte and changes nothing (G4; log 21). Two clauses are the model's
choice: that a frame which ends right after its direction byte, with no address byte sent, ends inside its address (log 24), and
what DMODE does on a marked device (log 12). -/
def Obligations.WhatMarksTheDeviceBad : Prop :=
  (∀ (d : Device) (b : Byte), d.bad = false →
      (d.frame = .start → decodeDev b = none → (d.byte b).2.bad = true)
        ∧ (∀ rd a j, d.frame = .data rd a j → 1 ≤ j → modeOfByte d.modeByte = some .byte →
            (d.byte b).2.bad = true)
        ∧ (∀ rd left a, d.frame = .addr rd left a → d.deselect.bad = true)
        ∧ (d.frame = .rdmr → d.byte b = (d.modeByte, d)))
    ∧ ∀ (d : Device) (b : Byte), d.bad = true →
      (d.byte b).1 = Config.freeByte d.draws
        ∧ (d.byte b).2.draws = d.draws + 1
        ∧ (d.byte b).2.bad = true
        ∧ (d.byte b).2.dmode = (if d.frame = .modeVal then .written b else d.dmode)
        ∧ (d.byte b).2.capKbit = d.capKbit
        ∧ d.select.bad = true
        ∧ d.deselect.bad = true
        ∧ ∀ x, d.read x = Config.lostByte d.draws x

/-! ### Typed accessors -/

/-- R184: for each type of R165 and each value of it, read_T after write_T at the same address returns the value, under
the conditions of R68: DIR_OPCODE_MULTI = 1, no BAD mark, and bytes that stay below CAP_BYTES and, with RANGE_CHECK = 1,
in the configured range. -/
def Obligations.TypedRoundTrip : Prop :=
  ∀ (addr : Addr) (v : TypedValue) (s : State),
    v.inType = true → Willing s → s.cfgInit = true → s.dirOpcodeMulti = true →
      WellAttached ⟨.scalar, v.type.width, false⟩ s →
        addr.toNat + widthBytes v.type.width ≤ s.dev.capBytes →
          (s.rangeCheck = true → addr.toNat + widthBytes v.type.width ≤ s.cfgCapKbit.toNat * 128) →
            typedRoundTrip addr v s = some v

/-- R184, R166 to R177: the HOST's conversions are inverse on bit patterns, for each type of R165. -/
def Obligations.TypedConversionsAreInverse : Prop :=
  (∀ v : BitVec 8, readByteValue (v.setWidth 32) = v)
    ∧ (∀ v : BitVec 16, readWordValue (v.setWidth 32) = v)
    ∧ (∀ v : Int, -2 ^ 31 ≤ v → v < 2 ^ 31 → readInt32Value (bits32 v) = v)
    ∧ (∀ v : Int, -2 ^ 31 ≤ v → v < 2 ^ 31 → readLongValue (bits32 v) = v)
    ∧ (∀ b : Data, bits32 (int32 b) = b ∧ -2 ^ 31 ≤ int32 b ∧ int32 b < 2 ^ 31)
    ∧ (∀ b : BitVec 32, readFloatBits b = b)
    ∧ (∀ v : BitVec 32, readDwordValue v = v)
    ∧ ∀ (ty : ScalarType) (b : Data), (typedValue ty b).type = ty ∧ (typedValue ty b).inType = true

/-- R50: an element's bytes, least significant first, and their reassembly. -/
def Obligations.ElementBytesAreLittleEndian : Prop :=
  (∀ (v : Data) (n : Nat), n ≤ 4 → packLE (unpackLE v n) = lowBytes v n)
    ∧ (∀ bs : List Byte, bs.length ≤ 4 → unpackLE (packLE bs) bs.length = bs)
    ∧ (∀ v : Data, unpackLE v 4 =
        [v.extractLsb' 0 8, v.extractLsb' 8 8, v.extractLsb' 16 8, v.extractLsb' 24 8])
    ∧ ∀ b0 b1 b2 b3 : Byte, packLE [b0, b1, b2, b3] = b3 ++ b2 ++ b1 ++ b0

/-- R178, R179: a block of any length is split without loss: every command takes at most 65535 elements, the counts add
up to the length, each command starts where the one before it ends, and the elements for the write-data stream are those
of the sequence, in order. Where the sequence is cut, and the address modulo 2^24, are the model's choice (log 25). -/
def Obligations.LongBlocksAreSplitWithoutLoss : Prop :=
  ∀ (w : Width) (es : List Data) (addr : Addr),
    (splitWrite w es addr).flatMap Prod.snd = es
      ∧ (splitWrite w es addr).map Prod.fst =
        (List.range (chunkCounts es.length).length).map (fun i =>
          blockWriteOf w (addr + BitVec.ofNat 24 (i * 65535 * widthBytes w))
            (BitVec.ofNat 16 ((chunkCounts es.length).getD i 0)))
      ∧ splitRead w addr es.length =
        (List.range (chunkCounts es.length).length).map (fun i =>
          blockReadOf w (addr + BitVec.ofNat 24 (i * 65535 * widthBytes w))
            (BitVec.ofNat 16 ((chunkCounts es.length).getD i 0)))
      ∧ (chunkCounts es.length).sum = es.length
      ∧ ∀ n ∈ chunkCounts es.length, n ≤ 65535
end

