-- ==== Sys2Proof/Laws/Accessors.lean ====
section
/-! SUPPORT. The width of each typed accessor's command (R184), and how the HOST's split of a long block cuts its
elements and counts its commands (R178). -/

namespace Sys2Proof.Machine

open Sys2Proof

/-- What a command that completes OK has done, and that it is idle again. -/
theorem execOk_eq_some {i : Instr} {s t : State} :
    execOk i s = some t ↔ exec i s = .next t ∧ t.ph = .idle ∧ t.rspSt = .ok := by
  unfold execOk
  split
  · rename_i u h
    rw [h]
    constructor
    · intro e
      split at e
      · rename_i c
        cases e
        exact ⟨rfl, c⟩
      · cases e
    · rintro ⟨e, c⟩
      cases e
      simp [c]
  · rename_i h
    simp [h]
  · rename_i h
    simp [h]

/-- R184: write_T is a scalar write of T's width. -/
theorem accessOf_writeTyped (a : Addr) (v : TypedValue) :
    accessOf (writeTyped a v) = some ⟨.scalar, v.type.width, false⟩ := by
  cases v <;> rfl

/-- R184: read_T is a scalar read of the same width. -/
theorem accessOf_readTyped (ty : ScalarType) (a : Addr) :
    accessOf (readTyped ty a) = some ⟨.scalar, ty.width, true⟩ := by
  cases ty <;> rfl

/-- A split has one command for each count. -/
@[simp] theorem length_blockCommands (make : Addr → Count → Instr) (bytes : Nat) (ns : List Nat) :
    ∀ a : Addr, (blockCommands make bytes ns a).length = ns.length := by
  induction ns with
  | nil => intro a; rfl
  | cons n rest ih => intro a; simp [blockCommands, ih]

/-- And one list of elements for each count. -/
@[simp] theorem length_cutElements (ns : List Nat) : ∀ es : List Data, (cutElements ns es).length = ns.length := by
  induction ns with
  | nil => intro es; rfl
  | cons n rest ih => intro es; simp [cutElements, ih]

/-- The elements cut are the first ones, as many as the counts say, in order. -/
theorem flatten_cutElements (ns : List Nat) : ∀ es : List Data, (cutElements ns es).flatten = es.take ns.sum := by
  induction ns with
  | nil => intro es; simp [cutElements]
  | cons n rest ih => intro es; simp [cutElements, ih, List.take_add]

end Sys2Proof.Machine
end

