-- ==== Sys2Proof/Laws/Decode.lean ====
section
/-! SUPPORT. The fields of a command word put together from its parts, a word put together from its fields, and the
two ways the decoder can go (R70, R75, R76). -/

namespace Sys2Proof

/-- The bits of a command word, field by field (R70). -/
theorem getLsbD_cmdWord (w : Data) (n : Count) (a : Addr) (op : Byte) (i : Nat) :
    (cmdWord w n a op).getLsbD i =
      if i < 8 then op.getLsbD i
      else if i < 32 then a.getLsbD (i - 8)
      else if i < 48 then n.getLsbD (i - 32)
      else w.getLsbD (i - 48) := by
  have h : (cmdWord w n a op).getLsbD i = (((w ++ n : BitVec 48) ++ a : BitVec 72) ++ op : BitVec 80).getLsbD i := rfl
  rw [h]
  simp only [BitVec.getLsbD_append]
  split_ifs <;> first | rfl | omega

@[simp] theorem cwOp_cmdWord (w : Data) (n : Count) (a : Addr) (op : Byte) : cwOp (cmdWord w n a op) = op := by
  apply BitVec.eq_of_getLsbD_eq
  intro i hi
  simp only [cwOp, BitVec.getLsbD_extractLsb', getLsbD_cmdWord]
  simp [hi]

@[simp] theorem cwAddr_cmdWord (w : Data) (n : Count) (a : Addr) (op : Byte) :
    cwAddr (cmdWord w n a op) = a := by
  apply BitVec.eq_of_getLsbD_eq
  intro i hi
  simp only [cwAddr, BitVec.getLsbD_extractLsb', getLsbD_cmdWord]
  simp [hi, (by omega : 8 + i < 32)]

@[simp] theorem cwCount_cmdWord (w : Data) (n : Count) (a : Addr) (op : Byte) :
    cwCount (cmdWord w n a op) = n := by
  apply BitVec.eq_of_getLsbD_eq
  intro i hi
  simp only [cwCount, BitVec.getLsbD_extractLsb', getLsbD_cmdWord]
  rw [if_neg (by omega), if_neg (by omega), if_pos (by omega)]
  simp [hi]

@[simp] theorem cwWdata_cmdWord (w : Data) (n : Count) (a : Addr) (op : Byte) :
    cwWdata (cmdWord w n a op) = w := by
  apply BitVec.eq_of_getLsbD_eq
  intro i hi
  simp only [cwWdata, BitVec.getLsbD_extractLsb', getLsbD_cmdWord]
  rw [if_neg (by omega), if_neg (by omega), if_neg (by omega)]
  simp [hi]

/-- A word is its four fields. -/
theorem cmdWord_fields (cw : CmdWord) : cmdWord (cwWdata cw) (cwCount cw) (cwAddr cw) (cwOp cw) = cw := by
  apply BitVec.eq_of_getLsbD_eq
  intro i hi
  simp only [getLsbD_cmdWord, cwWdata, cwCount, cwAddr, cwOp, BitVec.getLsbD_extractLsb']
  split
  · next h => simp [h]
  · split
    · next h1 h2 => simp [(by omega : i - 8 < 24), (by omega : 8 + (i - 8) = i)]
    · split
      · next h1 h2 h3 => simp [(by omega : i - 32 < 16), (by omega : 32 + (i - 32) = i)]
      · next h1 h2 h3 => simp [(by omega : i - 48 < 32), (by omega : 48 + (i - 48) = i)]

/-- Two words with equal fields are equal. -/
theorem cmdWord_ext {cw cw' : CmdWord} (h1 : cwOp cw = cwOp cw') (h2 : cwAddr cw = cwAddr cw')
    (h3 : cwCount cw = cwCount cw') (h4 : cwWdata cw = cwWdata cw') : cw = cw' := by
  rw [← cmdWord_fields cw, ← cmdWord_fields cw', h1, h2, h3, h4]

/-- A word that is not legal is the row reserved_illegal (R76). -/
theorem decodeCmd_of_not_legal {cw : CmdWord} (h : legal cw = false) : decodeCmd cw = .reservedIllegal cw := by
  simp [decodeCmd, h]

end Sys2Proof
end

