-- ==== Sys2Proof/Laws/Memory.lean ====
section
/-! SUPPORT. The laws of DMEM: a read after a write, and the canonical form, which the empty memory has and every
write keeps (log 5). -/

namespace Sys2Proof.Machine

open Sys2Proof

/-- A write is read back at its own address and seen at no other. -/
theorem Memory.find_write (mem : Memory) (x y : Nat) (v : Byte) :
    Memory.find (Memory.write mem x v) y = if x = y then some v else Memory.find mem y := by
  induction mem with
  | nil => simp [Memory.write, Memory.find]
  | cons c rest ih =>
    obtain ⟨a, b⟩ := c
    by_cases h1 : x < a
    · simp [Memory.write, Memory.find, h1]
    · by_cases h2 : x = a
      · subst h2; by_cases h3 : x = y <;> simp [Memory.write, Memory.find, h3]
      · by_cases h3 : a = y
        · subst h3; simp [Memory.write, Memory.find, h1, h2]
        · simp [Memory.write, Memory.find, h1, h2, h3, ih]

@[simp] theorem Memory.find_write_same (mem : Memory) (x : Nat) (v : Byte) :
    Memory.find (Memory.write mem x v) x = some v := by simp [Memory.find_write]

theorem Memory.find_write_other (mem : Memory) {x y : Nat} (v : Byte) (h : x ≠ y) :
    Memory.find (Memory.write mem x v) y = Memory.find mem y := by simp [Memory.find_write, h]

@[simp] theorem Memory.read_write_same (e : Nat) (mem : Memory) (x : Nat) (v : Byte) :
    Memory.read e (Memory.write mem x v) x = v := by simp [Memory.read]

theorem Memory.read_write_other (e : Nat) (mem : Memory) {x y : Nat} (v : Byte) (h : x ≠ y) :
    Memory.read e (Memory.write mem x v) y = Memory.read e mem y := by
  simp [Memory.read, Memory.find_write_other mem v h]

@[simp] theorem Memory.read_nil (e x : Nat) : Memory.read e [] x = Config.unwrittenByte e x := rfl

/-- A lower bound of a memory is one after a write above it. -/
theorem Memory.above_write {mem : Memory} {x y : Nat} (v : Byte) (h : Memory.above y mem = true) (hy : y < x) :
    Memory.above y (Memory.write mem x v) = true := by
  induction mem with
  | nil => simp [Memory.write, Memory.above, hy]
  | cons c rest ih =>
    obtain ⟨a, b⟩ := c
    simp only [Memory.above, Bool.and_eq_true, decide_eq_true_eq] at h
    by_cases h1 : x < a
    · simp [Memory.write, Memory.above, h1, hy, h.1, h.2]
    · by_cases h2 : x = a
      · subst h2; simp [Memory.write, Memory.above, hy, h.2]
      · simp [Memory.write, Memory.above, h1, h2, h.1, ih h.2]

/-- A bound goes down. -/
theorem Memory.above_mono {mem : Memory} {x y : Nat} (h : Memory.above x mem = true) (hy : y ≤ x) :
    Memory.above y mem = true := by
  induction mem with
  | nil => rfl
  | cons c rest ih =>
    obtain ⟨a, b⟩ := c
    simp only [Memory.above, Bool.and_eq_true, decide_eq_true_eq] at h ⊢
    exact ⟨by omega, ih h.2⟩

/-- The empty memory, which is the device's at power-up, is in canonical form. -/
@[simp] theorem Memory.wf_nil : Memory.wf [] = true := rfl

/-- A write keeps the canonical form. -/
theorem Memory.wf_write {mem : Memory} (x : Nat) (v : Byte) (h : Memory.wf mem = true) :
    Memory.wf (Memory.write mem x v) = true := by
  induction mem with
  | nil => simp [Memory.write, Memory.wf, Memory.above]
  | cons c rest ih =>
    obtain ⟨a, b⟩ := c
    simp only [Memory.wf, Bool.and_eq_true] at h
    by_cases h1 : x < a
    · simp [Memory.write, Memory.wf, Memory.above, h1, h.1, h.2, Memory.above_mono h.1 (Nat.le_of_lt h1)]
    · by_cases h2 : x = a
      · subst h2; simp [Memory.write, Memory.wf, h.1, h.2]
      · simp [Memory.write, Memory.wf, h1, h2, ih h.2, Memory.above_write v h.1 (by omega : a < x)]

end Sys2Proof.Machine
end

