-- ==== Sys2Proof/Laws/State.lean ====
section
/-! SUPPORT. The fields of State after each named update: one lemma per field per update. Later proofs rewrite with
these and unfold no record update. -/

namespace Sys2Proof.Machine

open Sys2Proof

/-! ### An event (R10) -/

@[simp] theorem State.emit_cfgInit (s : State) (e : Event) : (s.emit e).cfgInit = s.cfgInit := rfl
@[simp] theorem State.emit_cfgCapKbit (s : State) (e : Event) : (s.emit e).cfgCapKbit = s.cfgCapKbit := rfl
@[simp] theorem State.emit_cfgAddr3 (s : State) (e : Event) : (s.emit e).cfgAddr3 = s.cfgAddr3 := rfl
@[simp] theorem State.emit_cfgHoldEn (s : State) (e : Event) : (s.emit e).cfgHoldEn = s.cfgHoldEn := rfl
@[simp] theorem State.emit_mcV (s : State) (e : Event) : (s.emit e).mcV = s.mcV := rfl
@[simp] theorem State.emit_mcVal (s : State) (e : Event) : (s.emit e).mcVal = s.mcVal := rfl
@[simp] theorem State.emit_csAct (s : State) (e : Event) : (s.emit e).csAct = s.csAct := rfl
@[simp] theorem State.emit_ph (s : State) (e : Event) : (s.emit e).ph = s.ph := rfl
@[simp] theorem State.emit_cur (s : State) (e : Event) : (s.emit e).cur = s.cur := rfl
@[simp] theorem State.emit_ai (s : State) (e : Event) : (s.emit e).ai = s.ai := rfl
@[simp] theorem State.emit_k (s : State) (e : Event) : (s.emit e).k = s.k := rfl
@[simp] theorem State.emit_i (s : State) (e : Event) : (s.emit e).i = s.i := rfl
@[simp] theorem State.emit_acc (s : State) (e : Event) : (s.emit e).acc = s.acc := rfl
@[simp] theorem State.emit_ebuf (s : State) (e : Event) : (s.emit e).ebuf = s.ebuf := rfl
@[simp] theorem State.emit_m (s : State) (e : Event) : (s.emit e).m = s.m := rfl
@[simp] theorem State.emit_rspSt (s : State) (e : Event) : (s.emit e).rspSt = s.rspSt := rfl
@[simp] theorem State.emit_rspRd (s : State) (e : Event) : (s.emit e).rspRd = s.rspRd := rfl
@[simp] theorem State.emit_dirOpcodeMulti (s : State) (e : Event) :
    (s.emit e).dirOpcodeMulti = s.dirOpcodeMulti := rfl
@[simp] theorem State.emit_rangeCheck (s : State) (e : Event) : (s.emit e).rangeCheck = s.rangeCheck := rfl
@[simp] theorem State.emit_cmdIn (s : State) (e : Event) : (s.emit e).cmdIn = s.cmdIn := rfl
@[simp] theorem State.emit_wdIn (s : State) (e : Event) : (s.emit e).wdIn = s.wdIn := rfl
@[simp] theorem State.emit_rdReady (s : State) (e : Event) : (s.emit e).rdReady = s.rdReady := rfl
@[simp] theorem State.emit_rspReady (s : State) (e : Event) : (s.emit e).rspReady = s.rspReady := rfl
@[simp] theorem State.emit_bus (s : State) (e : Event) : (s.emit e).bus = s.bus := rfl
@[simp] theorem State.emit_dev (s : State) (e : Event) : (s.emit e).dev = s.dev := rfl
@[simp] theorem State.emit_wire (s : State) (e : Event) : (s.emit e).wire = s.wire := rfl
@[simp] theorem State.emit_wireOut (s : State) (e : Event) : (s.emit e).wireOut = s.wireOut := rfl
@[simp] theorem State.emit_resetIn (s : State) (e : Event) : (s.emit e).resetIn = s.resetIn := rfl
@[simp] theorem State.emit_trace (s : State) (e : Event) : (s.emit e).trace = s.trace ++ [e] := rfl

/-! ### A phase (R27) -/

@[simp] theorem State.goto_cfgInit (s : State) (p : Phase) : (s.goto p).cfgInit = s.cfgInit := rfl
@[simp] theorem State.goto_cfgCapKbit (s : State) (p : Phase) : (s.goto p).cfgCapKbit = s.cfgCapKbit := rfl
@[simp] theorem State.goto_cfgAddr3 (s : State) (p : Phase) : (s.goto p).cfgAddr3 = s.cfgAddr3 := rfl
@[simp] theorem State.goto_cfgHoldEn (s : State) (p : Phase) : (s.goto p).cfgHoldEn = s.cfgHoldEn := rfl
@[simp] theorem State.goto_mcV (s : State) (p : Phase) : (s.goto p).mcV = s.mcV := rfl
@[simp] theorem State.goto_mcVal (s : State) (p : Phase) : (s.goto p).mcVal = s.mcVal := rfl
@[simp] theorem State.goto_csAct (s : State) (p : Phase) : (s.goto p).csAct = s.csAct := rfl
@[simp] theorem State.goto_ph (s : State) (p : Phase) : (s.goto p).ph = p := rfl
@[simp] theorem State.goto_cur (s : State) (p : Phase) : (s.goto p).cur = s.cur := rfl
@[simp] theorem State.goto_ai (s : State) (p : Phase) : (s.goto p).ai = s.ai := rfl
@[simp] theorem State.goto_k (s : State) (p : Phase) : (s.goto p).k = s.k := rfl
@[simp] theorem State.goto_i (s : State) (p : Phase) : (s.goto p).i = s.i := rfl
@[simp] theorem State.goto_acc (s : State) (p : Phase) : (s.goto p).acc = s.acc := rfl
@[simp] theorem State.goto_ebuf (s : State) (p : Phase) : (s.goto p).ebuf = s.ebuf := rfl
@[simp] theorem State.goto_m (s : State) (p : Phase) : (s.goto p).m = s.m := rfl
@[simp] theorem State.goto_rspSt (s : State) (p : Phase) : (s.goto p).rspSt = s.rspSt := rfl
@[simp] theorem State.goto_rspRd (s : State) (p : Phase) : (s.goto p).rspRd = s.rspRd := rfl
@[simp] theorem State.goto_dirOpcodeMulti (s : State) (p : Phase) :
    (s.goto p).dirOpcodeMulti = s.dirOpcodeMulti := rfl
@[simp] theorem State.goto_rangeCheck (s : State) (p : Phase) : (s.goto p).rangeCheck = s.rangeCheck := rfl
@[simp] theorem State.goto_cmdIn (s : State) (p : Phase) : (s.goto p).cmdIn = s.cmdIn := rfl
@[simp] theorem State.goto_wdIn (s : State) (p : Phase) : (s.goto p).wdIn = s.wdIn := rfl
@[simp] theorem State.goto_rdReady (s : State) (p : Phase) : (s.goto p).rdReady = s.rdReady := rfl
@[simp] theorem State.goto_rspReady (s : State) (p : Phase) : (s.goto p).rspReady = s.rspReady := rfl
@[simp] theorem State.goto_bus (s : State) (p : Phase) : (s.goto p).bus = s.bus := rfl
@[simp] theorem State.goto_dev (s : State) (p : Phase) : (s.goto p).dev = s.dev := rfl
@[simp] theorem State.goto_wire (s : State) (p : Phase) : (s.goto p).wire = s.wire := rfl
@[simp] theorem State.goto_wireOut (s : State) (p : Phase) : (s.goto p).wireOut = s.wireOut := rfl
@[simp] theorem State.goto_resetIn (s : State) (p : Phase) : (s.goto p).resetIn = s.resetIn := rfl
@[simp] theorem State.goto_trace (s : State) (p : Phase) : (s.goto p).trace = s.trace := rfl

/-! ### A move passes (log 9) -/

@[simp] theorem State.passTime_cfgInit (s : State) : (s.passTime).cfgInit = s.cfgInit := rfl
@[simp] theorem State.passTime_cfgCapKbit (s : State) : (s.passTime).cfgCapKbit = s.cfgCapKbit := rfl
@[simp] theorem State.passTime_cfgAddr3 (s : State) : (s.passTime).cfgAddr3 = s.cfgAddr3 := rfl
@[simp] theorem State.passTime_cfgHoldEn (s : State) : (s.passTime).cfgHoldEn = s.cfgHoldEn := rfl
@[simp] theorem State.passTime_mcV (s : State) : (s.passTime).mcV = s.mcV := rfl
@[simp] theorem State.passTime_mcVal (s : State) : (s.passTime).mcVal = s.mcVal := rfl
@[simp] theorem State.passTime_csAct (s : State) : (s.passTime).csAct = s.csAct := rfl
@[simp] theorem State.passTime_ph (s : State) : (s.passTime).ph = s.ph := rfl
@[simp] theorem State.passTime_cur (s : State) : (s.passTime).cur = s.cur := rfl
@[simp] theorem State.passTime_ai (s : State) : (s.passTime).ai = s.ai := rfl
@[simp] theorem State.passTime_k (s : State) : (s.passTime).k = s.k := rfl
@[simp] theorem State.passTime_i (s : State) : (s.passTime).i = s.i := rfl
@[simp] theorem State.passTime_acc (s : State) : (s.passTime).acc = s.acc := rfl
@[simp] theorem State.passTime_ebuf (s : State) : (s.passTime).ebuf = s.ebuf := rfl
@[simp] theorem State.passTime_m (s : State) : (s.passTime).m = s.m := rfl
@[simp] theorem State.passTime_rspSt (s : State) : (s.passTime).rspSt = s.rspSt := rfl
@[simp] theorem State.passTime_rspRd (s : State) : (s.passTime).rspRd = s.rspRd := rfl
@[simp] theorem State.passTime_dirOpcodeMulti (s : State) : (s.passTime).dirOpcodeMulti = s.dirOpcodeMulti := rfl
@[simp] theorem State.passTime_rangeCheck (s : State) : (s.passTime).rangeCheck = s.rangeCheck := rfl
@[simp] theorem State.passTime_cmdIn (s : State) : (s.passTime).cmdIn = s.cmdIn := rfl
@[simp] theorem State.passTime_wdIn (s : State) : (s.passTime).wdIn = s.wdIn := rfl
@[simp] theorem State.passTime_rdReady (s : State) : (s.passTime).rdReady = s.rdReady := rfl
@[simp] theorem State.passTime_rspReady (s : State) : (s.passTime).rspReady = s.rspReady := rfl
@[simp] theorem State.passTime_bus (s : State) : (s.passTime).bus = s.bus := rfl
@[simp] theorem State.passTime_dev (s : State) : (s.passTime).dev = s.dev := rfl
@[simp] theorem State.passTime_wire (s : State) : (s.passTime).wire = s.wire := rfl
@[simp] theorem State.passTime_wireOut (s : State) : (s.passTime).wireOut = s.wireOut := rfl
@[simp] theorem State.passTime_resetIn (s : State) : (s.passTime).resetIn = s.resetIn.map (· - 1) := rfl
@[simp] theorem State.passTime_trace (s : State) : (s.passTime).trace = s.trace := rfl

/-! ### Scratch registers hidden -/

@[simp] theorem State.withoutScratch_cfgInit (s : State) : (s.withoutScratch).cfgInit = s.cfgInit := rfl
@[simp] theorem State.withoutScratch_cfgCapKbit (s : State) : (s.withoutScratch).cfgCapKbit = s.cfgCapKbit := rfl
@[simp] theorem State.withoutScratch_cfgAddr3 (s : State) : (s.withoutScratch).cfgAddr3 = s.cfgAddr3 := rfl
@[simp] theorem State.withoutScratch_cfgHoldEn (s : State) : (s.withoutScratch).cfgHoldEn = s.cfgHoldEn := rfl
@[simp] theorem State.withoutScratch_mcV (s : State) : (s.withoutScratch).mcV = s.mcV := rfl
@[simp] theorem State.withoutScratch_mcVal (s : State) : (s.withoutScratch).mcVal = s.mcVal := rfl
@[simp] theorem State.withoutScratch_csAct (s : State) : (s.withoutScratch).csAct = s.csAct := rfl
@[simp] theorem State.withoutScratch_ph (s : State) : (s.withoutScratch).ph = s.ph := rfl
@[simp] theorem State.withoutScratch_cur (s : State) : (s.withoutScratch).cur = s.cur := rfl
@[simp] theorem State.withoutScratch_ai (s : State) : (s.withoutScratch).ai = 0 := rfl
@[simp] theorem State.withoutScratch_k (s : State) : (s.withoutScratch).k = 0 := rfl
@[simp] theorem State.withoutScratch_i (s : State) : (s.withoutScratch).i = 0 := rfl
@[simp] theorem State.withoutScratch_acc (s : State) : (s.withoutScratch).acc = 0 := rfl
@[simp] theorem State.withoutScratch_ebuf (s : State) : (s.withoutScratch).ebuf = 0 := rfl
@[simp] theorem State.withoutScratch_m (s : State) : (s.withoutScratch).m = s.m := rfl
@[simp] theorem State.withoutScratch_rspSt (s : State) : (s.withoutScratch).rspSt = s.rspSt := rfl
@[simp] theorem State.withoutScratch_rspRd (s : State) : (s.withoutScratch).rspRd = s.rspRd := rfl
@[simp] theorem State.withoutScratch_dirOpcodeMulti (s : State) :
    (s.withoutScratch).dirOpcodeMulti = s.dirOpcodeMulti := rfl
@[simp] theorem State.withoutScratch_rangeCheck (s : State) : (s.withoutScratch).rangeCheck = s.rangeCheck := rfl
@[simp] theorem State.withoutScratch_cmdIn (s : State) : (s.withoutScratch).cmdIn = s.cmdIn := rfl
@[simp] theorem State.withoutScratch_wdIn (s : State) : (s.withoutScratch).wdIn = s.wdIn := rfl
@[simp] theorem State.withoutScratch_rdReady (s : State) : (s.withoutScratch).rdReady = s.rdReady := rfl
@[simp] theorem State.withoutScratch_rspReady (s : State) : (s.withoutScratch).rspReady = s.rspReady := rfl
@[simp] theorem State.withoutScratch_bus (s : State) : (s.withoutScratch).bus = s.bus := rfl
@[simp] theorem State.withoutScratch_dev (s : State) : (s.withoutScratch).dev = s.dev := rfl
@[simp] theorem State.withoutScratch_wire (s : State) : (s.withoutScratch).wire = s.wire := rfl
@[simp] theorem State.withoutScratch_wireOut (s : State) : (s.withoutScratch).wireOut = s.wireOut := rfl
@[simp] theorem State.withoutScratch_resetIn (s : State) : (s.withoutScratch).resetIn = s.resetIn := rfl
@[simp] theorem State.withoutScratch_trace (s : State) : (s.withoutScratch).trace = s.trace := rfl

/-! ### A status response (R191) -/

@[simp] theorem respond_cfgInit (st : Status) (s : State) : (respond st s).cfgInit = s.cfgInit := rfl
@[simp] theorem respond_cfgCapKbit (st : Status) (s : State) : (respond st s).cfgCapKbit = s.cfgCapKbit := rfl
@[simp] theorem respond_cfgAddr3 (st : Status) (s : State) : (respond st s).cfgAddr3 = s.cfgAddr3 := rfl
@[simp] theorem respond_cfgHoldEn (st : Status) (s : State) : (respond st s).cfgHoldEn = s.cfgHoldEn := rfl
@[simp] theorem respond_mcV (st : Status) (s : State) : (respond st s).mcV = s.mcV := rfl
@[simp] theorem respond_mcVal (st : Status) (s : State) : (respond st s).mcVal = s.mcVal := rfl
@[simp] theorem respond_csAct (st : Status) (s : State) : (respond st s).csAct = s.csAct := rfl
@[simp] theorem respond_ph (st : Status) (s : State) : (respond st s).ph = .rsp := rfl
@[simp] theorem respond_cur (st : Status) (s : State) : (respond st s).cur = s.cur := rfl
@[simp] theorem respond_ai (st : Status) (s : State) : (respond st s).ai = s.ai := rfl
@[simp] theorem respond_k (st : Status) (s : State) : (respond st s).k = s.k := rfl
@[simp] theorem respond_i (st : Status) (s : State) : (respond st s).i = s.i := rfl
@[simp] theorem respond_acc (st : Status) (s : State) : (respond st s).acc = s.acc := rfl
@[simp] theorem respond_ebuf (st : Status) (s : State) : (respond st s).ebuf = s.ebuf := rfl
@[simp] theorem respond_m (st : Status) (s : State) : (respond st s).m = s.m := rfl
@[simp] theorem respond_rspSt (st : Status) (s : State) : (respond st s).rspSt = st := rfl
@[simp] theorem respond_rspRd (st : Status) (s : State) : (respond st s).rspRd = 0 := rfl
@[simp] theorem respond_dirOpcodeMulti (st : Status) (s : State) :
    (respond st s).dirOpcodeMulti = s.dirOpcodeMulti := rfl
@[simp] theorem respond_rangeCheck (st : Status) (s : State) : (respond st s).rangeCheck = s.rangeCheck := rfl
@[simp] theorem respond_cmdIn (st : Status) (s : State) : (respond st s).cmdIn = s.cmdIn := rfl
@[simp] theorem respond_wdIn (st : Status) (s : State) : (respond st s).wdIn = s.wdIn := rfl
@[simp] theorem respond_rdReady (st : Status) (s : State) : (respond st s).rdReady = s.rdReady := rfl
@[simp] theorem respond_rspReady (st : Status) (s : State) : (respond st s).rspReady = s.rspReady := rfl
@[simp] theorem respond_bus (st : Status) (s : State) : (respond st s).bus = s.bus := rfl
@[simp] theorem respond_dev (st : Status) (s : State) : (respond st s).dev = s.dev := rfl
@[simp] theorem respond_wire (st : Status) (s : State) : (respond st s).wire = s.wire := rfl
@[simp] theorem respond_wireOut (st : Status) (s : State) : (respond st s).wireOut = s.wireOut := rfl
@[simp] theorem respond_resetIn (st : Status) (s : State) : (respond st s).resetIn = s.resetIn := rfl
@[simp] theorem respond_trace (st : Status) (s : State) : (respond st s).trace = s.trace := rfl

/-! ### ACCEPT (R122) -/

@[simp] theorem accept_cfgInit (cw : CmdWord) (s : State) : (accept cw s).cfgInit = s.cfgInit := rfl
@[simp] theorem accept_cfgCapKbit (cw : CmdWord) (s : State) : (accept cw s).cfgCapKbit = s.cfgCapKbit := rfl
@[simp] theorem accept_cfgAddr3 (cw : CmdWord) (s : State) : (accept cw s).cfgAddr3 = s.cfgAddr3 := rfl
@[simp] theorem accept_cfgHoldEn (cw : CmdWord) (s : State) : (accept cw s).cfgHoldEn = s.cfgHoldEn := rfl
@[simp] theorem accept_mcV (cw : CmdWord) (s : State) : (accept cw s).mcV = s.mcV := rfl
@[simp] theorem accept_mcVal (cw : CmdWord) (s : State) : (accept cw s).mcVal = s.mcVal := rfl
@[simp] theorem accept_csAct (cw : CmdWord) (s : State) : (accept cw s).csAct = s.csAct := rfl
@[simp] theorem accept_ph (cw : CmdWord) (s : State) : (accept cw s).ph = .check := rfl
@[simp] theorem accept_cur (cw : CmdWord) (s : State) : (accept cw s).cur = cw := rfl
@[simp] theorem accept_ai (cw : CmdWord) (s : State) : (accept cw s).ai = s.ai := rfl
@[simp] theorem accept_k (cw : CmdWord) (s : State) : (accept cw s).k = s.k := rfl
@[simp] theorem accept_i (cw : CmdWord) (s : State) : (accept cw s).i = s.i := rfl
@[simp] theorem accept_acc (cw : CmdWord) (s : State) : (accept cw s).acc = s.acc := rfl
@[simp] theorem accept_ebuf (cw : CmdWord) (s : State) : (accept cw s).ebuf = s.ebuf := rfl
@[simp] theorem accept_m (cw : CmdWord) (s : State) : (accept cw s).m = s.m := rfl
@[simp] theorem accept_rspSt (cw : CmdWord) (s : State) : (accept cw s).rspSt = s.rspSt := rfl
@[simp] theorem accept_rspRd (cw : CmdWord) (s : State) : (accept cw s).rspRd = s.rspRd := rfl
@[simp] theorem accept_dirOpcodeMulti (cw : CmdWord) (s : State) :
    (accept cw s).dirOpcodeMulti = s.dirOpcodeMulti := rfl
@[simp] theorem accept_rangeCheck (cw : CmdWord) (s : State) : (accept cw s).rangeCheck = s.rangeCheck := rfl
@[simp] theorem accept_cmdIn (cw : CmdWord) (s : State) : (accept cw s).cmdIn = s.cmdIn := rfl
@[simp] theorem accept_wdIn (cw : CmdWord) (s : State) : (accept cw s).wdIn = s.wdIn := rfl
@[simp] theorem accept_rdReady (cw : CmdWord) (s : State) : (accept cw s).rdReady = s.rdReady := rfl
@[simp] theorem accept_rspReady (cw : CmdWord) (s : State) : (accept cw s).rspReady = s.rspReady := rfl
@[simp] theorem accept_bus (cw : CmdWord) (s : State) : (accept cw s).bus = s.bus := rfl
@[simp] theorem accept_dev (cw : CmdWord) (s : State) : (accept cw s).dev = s.dev := rfl
@[simp] theorem accept_wire (cw : CmdWord) (s : State) : (accept cw s).wire = s.wire := rfl
@[simp] theorem accept_wireOut (cw : CmdWord) (s : State) : (accept cw s).wireOut = s.wireOut := rfl
@[simp] theorem accept_resetIn (cw : CmdWord) (s : State) : (accept cw s).resetIn = s.resetIn.map (· - 1) := rfl
@[simp] theorem accept_trace (cw : CmdWord) (s : State) : (accept cw s).trace = s.trace ++ [.accept cw] := rfl

/-! ### A byte given to the device by hand (log 10) -/

@[simp] theorem handByte_cfgInit (t : Byte) (s : State) : (handByte t s).cfgInit = s.cfgInit := rfl
@[simp] theorem handByte_cfgCapKbit (t : Byte) (s : State) : (handByte t s).cfgCapKbit = s.cfgCapKbit := rfl
@[simp] theorem handByte_cfgAddr3 (t : Byte) (s : State) : (handByte t s).cfgAddr3 = s.cfgAddr3 := rfl
@[simp] theorem handByte_cfgHoldEn (t : Byte) (s : State) : (handByte t s).cfgHoldEn = s.cfgHoldEn := rfl
@[simp] theorem handByte_mcV (t : Byte) (s : State) : (handByte t s).mcV = s.mcV := rfl
@[simp] theorem handByte_mcVal (t : Byte) (s : State) : (handByte t s).mcVal = s.mcVal := rfl
@[simp] theorem handByte_csAct (t : Byte) (s : State) : (handByte t s).csAct = s.csAct := rfl
@[simp] theorem handByte_ph (t : Byte) (s : State) : (handByte t s).ph = s.ph := rfl
@[simp] theorem handByte_cur (t : Byte) (s : State) : (handByte t s).cur = s.cur := rfl
@[simp] theorem handByte_ai (t : Byte) (s : State) : (handByte t s).ai = s.ai := rfl
@[simp] theorem handByte_k (t : Byte) (s : State) : (handByte t s).k = s.k := rfl
@[simp] theorem handByte_i (t : Byte) (s : State) : (handByte t s).i = s.i := rfl
@[simp] theorem handByte_acc (t : Byte) (s : State) : (handByte t s).acc = s.acc := rfl
@[simp] theorem handByte_ebuf (t : Byte) (s : State) : (handByte t s).ebuf = s.ebuf := rfl
@[simp] theorem handByte_m (t : Byte) (s : State) : (handByte t s).m = s.m := rfl
@[simp] theorem handByte_rspSt (t : Byte) (s : State) : (handByte t s).rspSt = s.rspSt := rfl
@[simp] theorem handByte_rspRd (t : Byte) (s : State) : (handByte t s).rspRd = s.rspRd := rfl
@[simp] theorem handByte_dirOpcodeMulti (t : Byte) (s : State) :
    (handByte t s).dirOpcodeMulti = s.dirOpcodeMulti := rfl
@[simp] theorem handByte_rangeCheck (t : Byte) (s : State) : (handByte t s).rangeCheck = s.rangeCheck := rfl
@[simp] theorem handByte_cmdIn (t : Byte) (s : State) : (handByte t s).cmdIn = s.cmdIn := rfl
@[simp] theorem handByte_wdIn (t : Byte) (s : State) : (handByte t s).wdIn = s.wdIn := rfl
@[simp] theorem handByte_rdReady (t : Byte) (s : State) : (handByte t s).rdReady = s.rdReady := rfl
@[simp] theorem handByte_rspReady (t : Byte) (s : State) : (handByte t s).rspReady = s.rspReady := rfl
@[simp] theorem handByte_bus (t : Byte) (s : State) : (handByte t s).bus = s.bus := rfl
@[simp] theorem handByte_dev (t : Byte) (s : State) : (handByte t s).dev = (s.dev.byte t).2 := rfl
@[simp] theorem handByte_wire (t : Byte) (s : State) : (handByte t s).wire = s.wire := rfl
@[simp] theorem handByte_wireOut (t : Byte) (s : State) :
    (handByte t s).wireOut = s.wireOut ++ [(s.dev.byte t).1] := rfl
@[simp] theorem handByte_resetIn (t : Byte) (s : State) : (handByte t s).resetIn = s.resetIn := rfl
@[simp] theorem handByte_trace (t : Byte) (s : State) : (handByte t s).trace = s.trace := rfl

/-! ### The device behind the chip-select line -/

@[simp] theorem State.onDevice_cfgInit (s : State) (f : Device → Device) :
    (s.onDevice f).cfgInit = s.cfgInit := by
  unfold State.onDevice; split <;> rfl
@[simp] theorem State.onDevice_cfgCapKbit (s : State) (f : Device → Device) :
    (s.onDevice f).cfgCapKbit = s.cfgCapKbit := by
  unfold State.onDevice; split <;> rfl
@[simp] theorem State.onDevice_cfgAddr3 (s : State) (f : Device → Device) :
    (s.onDevice f).cfgAddr3 = s.cfgAddr3 := by
  unfold State.onDevice; split <;> rfl
@[simp] theorem State.onDevice_cfgHoldEn (s : State) (f : Device → Device) :
    (s.onDevice f).cfgHoldEn = s.cfgHoldEn := by
  unfold State.onDevice; split <;> rfl
@[simp] theorem State.onDevice_mcV (s : State) (f : Device → Device) :
    (s.onDevice f).mcV = s.mcV := by
  unfold State.onDevice; split <;> rfl
@[simp] theorem State.onDevice_mcVal (s : State) (f : Device → Device) :
    (s.onDevice f).mcVal = s.mcVal := by
  unfold State.onDevice; split <;> rfl
@[simp] theorem State.onDevice_csAct (s : State) (f : Device → Device) :
    (s.onDevice f).csAct = s.csAct := by
  unfold State.onDevice; split <;> rfl
@[simp] theorem State.onDevice_ph (s : State) (f : Device → Device) :
    (s.onDevice f).ph = s.ph := by
  unfold State.onDevice; split <;> rfl
@[simp] theorem State.onDevice_cur (s : State) (f : Device → Device) :
    (s.onDevice f).cur = s.cur := by
  unfold State.onDevice; split <;> rfl
@[simp] theorem State.onDevice_ai (s : State) (f : Device → Device) :
    (s.onDevice f).ai = s.ai := by
  unfold State.onDevice; split <;> rfl
@[simp] theorem State.onDevice_k (s : State) (f : Device → Device) :
    (s.onDevice f).k = s.k := by
  unfold State.onDevice; split <;> rfl
@[simp] theorem State.onDevice_i (s : State) (f : Device → Device) :
    (s.onDevice f).i = s.i := by
  unfold State.onDevice; split <;> rfl
@[simp] theorem State.onDevice_acc (s : State) (f : Device → Device) :
    (s.onDevice f).acc = s.acc := by
  unfold State.onDevice; split <;> rfl
@[simp] theorem State.onDevice_ebuf (s : State) (f : Device → Device) :
    (s.onDevice f).ebuf = s.ebuf := by
  unfold State.onDevice; split <;> rfl
@[simp] theorem State.onDevice_m (s : State) (f : Device → Device) :
    (s.onDevice f).m = s.m := by
  unfold State.onDevice; split <;> rfl
@[simp] theorem State.onDevice_rspSt (s : State) (f : Device → Device) :
    (s.onDevice f).rspSt = s.rspSt := by
  unfold State.onDevice; split <;> rfl
@[simp] theorem State.onDevice_rspRd (s : State) (f : Device → Device) :
    (s.onDevice f).rspRd = s.rspRd := by
  unfold State.onDevice; split <;> rfl
@[simp] theorem State.onDevice_dirOpcodeMulti (s : State) (f : Device → Device) :
    (s.onDevice f).dirOpcodeMulti = s.dirOpcodeMulti := by
  unfold State.onDevice; split <;> rfl
@[simp] theorem State.onDevice_rangeCheck (s : State) (f : Device → Device) :
    (s.onDevice f).rangeCheck = s.rangeCheck := by
  unfold State.onDevice; split <;> rfl
@[simp] theorem State.onDevice_cmdIn (s : State) (f : Device → Device) :
    (s.onDevice f).cmdIn = s.cmdIn := by
  unfold State.onDevice; split <;> rfl
@[simp] theorem State.onDevice_wdIn (s : State) (f : Device → Device) :
    (s.onDevice f).wdIn = s.wdIn := by
  unfold State.onDevice; split <;> rfl
@[simp] theorem State.onDevice_rdReady (s : State) (f : Device → Device) :
    (s.onDevice f).rdReady = s.rdReady := by
  unfold State.onDevice; split <;> rfl
@[simp] theorem State.onDevice_rspReady (s : State) (f : Device → Device) :
    (s.onDevice f).rspReady = s.rspReady := by
  unfold State.onDevice; split <;> rfl
@[simp] theorem State.onDevice_bus (s : State) (f : Device → Device) :
    (s.onDevice f).bus = s.bus := by
  unfold State.onDevice; split <;> rfl
@[simp] theorem State.onDevice_wire (s : State) (f : Device → Device) :
    (s.onDevice f).wire = s.wire := by
  unfold State.onDevice; split <;> rfl
@[simp] theorem State.onDevice_wireOut (s : State) (f : Device → Device) :
    (s.onDevice f).wireOut = s.wireOut := by
  unfold State.onDevice; split <;> rfl
@[simp] theorem State.onDevice_resetIn (s : State) (f : Device → Device) :
    (s.onDevice f).resetIn = s.resetIn := by
  unfold State.onDevice; split <;> rfl
@[simp] theorem State.onDevice_trace (s : State) (f : Device → Device) :
    (s.onDevice f).trace = s.trace := by
  unfold State.onDevice; split <;> rfl

/-- With an oracle for a BUS there is no device to reach. -/
theorem State.onDevice_of_oracle {s : State} {rx : List Byte} (h : s.bus = .oracle rx) (f : Device → Device) :
    s.onDevice f = s := by
  unfold State.onDevice; rw [h]

/-- With the reference device on the BUS the update reaches it. -/
theorem State.onDevice_of_device {s : State} (h : s.bus = .device) (f : Device → Device) :
    s.onDevice f = { s with dev := f s.dev } := by
  unfold State.onDevice; rw [h]

/-! ### CS_ASSERT (R100) -/

@[simp] theorem csAssert_cfgInit (s : State) :
    (csAssert s).cfgInit = s.cfgInit := by
  unfold csAssert; split <;> simp_all
@[simp] theorem csAssert_cfgCapKbit (s : State) :
    (csAssert s).cfgCapKbit = s.cfgCapKbit := by
  unfold csAssert; split <;> simp_all
@[simp] theorem csAssert_cfgAddr3 (s : State) :
    (csAssert s).cfgAddr3 = s.cfgAddr3 := by
  unfold csAssert; split <;> simp_all
@[simp] theorem csAssert_cfgHoldEn (s : State) :
    (csAssert s).cfgHoldEn = s.cfgHoldEn := by
  unfold csAssert; split <;> simp_all
@[simp] theorem csAssert_mcV (s : State) : (csAssert s).mcV = s.mcV := by
  unfold csAssert; split <;> simp_all
@[simp] theorem csAssert_mcVal (s : State) : (csAssert s).mcVal = s.mcVal := by
  unfold csAssert; split <;> simp_all
@[simp] theorem csAssert_csAct (s : State) : (csAssert s).csAct = true := by
  unfold csAssert; split <;> simp_all
@[simp] theorem csAssert_ph (s : State) : (csAssert s).ph = s.ph := by
  unfold csAssert; split <;> simp_all
@[simp] theorem csAssert_cur (s : State) : (csAssert s).cur = s.cur := by
  unfold csAssert; split <;> simp_all
@[simp] theorem csAssert_ai (s : State) : (csAssert s).ai = s.ai := by
  unfold csAssert; split <;> simp_all
@[simp] theorem csAssert_k (s : State) : (csAssert s).k = s.k := by
  unfold csAssert; split <;> simp_all
@[simp] theorem csAssert_i (s : State) : (csAssert s).i = s.i := by
  unfold csAssert; split <;> simp_all
@[simp] theorem csAssert_acc (s : State) : (csAssert s).acc = s.acc := by
  unfold csAssert; split <;> simp_all
@[simp] theorem csAssert_ebuf (s : State) : (csAssert s).ebuf = s.ebuf := by
  unfold csAssert; split <;> simp_all
@[simp] theorem csAssert_m (s : State) : (csAssert s).m = s.m := by
  unfold csAssert; split <;> simp_all
@[simp] theorem csAssert_rspSt (s : State) : (csAssert s).rspSt = s.rspSt := by
  unfold csAssert; split <;> simp_all
@[simp] theorem csAssert_rspRd (s : State) : (csAssert s).rspRd = s.rspRd := by
  unfold csAssert; split <;> simp_all
@[simp] theorem csAssert_dirOpcodeMulti (s : State) :
    (csAssert s).dirOpcodeMulti = s.dirOpcodeMulti := by
  unfold csAssert; split <;> simp_all
@[simp] theorem csAssert_rangeCheck (s : State) :
    (csAssert s).rangeCheck = s.rangeCheck := by
  unfold csAssert; split <;> simp_all
@[simp] theorem csAssert_cmdIn (s : State) : (csAssert s).cmdIn = s.cmdIn := by
  unfold csAssert; split <;> simp_all
@[simp] theorem csAssert_wdIn (s : State) : (csAssert s).wdIn = s.wdIn := by
  unfold csAssert; split <;> simp_all
@[simp] theorem csAssert_rdReady (s : State) :
    (csAssert s).rdReady = s.rdReady := by
  unfold csAssert; split <;> simp_all
@[simp] theorem csAssert_rspReady (s : State) :
    (csAssert s).rspReady = s.rspReady := by
  unfold csAssert; split <;> simp_all
@[simp] theorem csAssert_bus (s : State) : (csAssert s).bus = s.bus := by
  unfold csAssert; split <;> simp_all
@[simp] theorem csAssert_wire (s : State) : (csAssert s).wire = s.wire := by
  unfold csAssert; split <;> simp_all
@[simp] theorem csAssert_wireOut (s : State) :
    (csAssert s).wireOut = s.wireOut := by
  unfold csAssert; split <;> simp_all
@[simp] theorem csAssert_resetIn (s : State) :
    (csAssert s).resetIn = s.resetIn := by
  unfold csAssert; split <;> simp_all
@[simp] theorem csAssert_trace (s : State) :
    (csAssert s).trace = s.trace ++ (if s.csAct then [] else [.sel]) := by
  unfold csAssert; split <;> simp_all

/-! ### CS_DEASSERT (R101) -/

@[simp] theorem csDeassert_cfgInit (s : State) :
    (csDeassert s).cfgInit = s.cfgInit := by
  unfold csDeassert; split <;> simp_all
@[simp] theorem csDeassert_cfgCapKbit (s : State) :
    (csDeassert s).cfgCapKbit = s.cfgCapKbit := by
  unfold csDeassert; split <;> simp_all
@[simp] theorem csDeassert_cfgAddr3 (s : State) :
    (csDeassert s).cfgAddr3 = s.cfgAddr3 := by
  unfold csDeassert; split <;> simp_all
@[simp] theorem csDeassert_cfgHoldEn (s : State) :
    (csDeassert s).cfgHoldEn = s.cfgHoldEn := by
  unfold csDeassert; split <;> simp_all
@[simp] theorem csDeassert_mcV (s : State) : (csDeassert s).mcV = s.mcV := by
  unfold csDeassert; split <;> simp_all
@[simp] theorem csDeassert_mcVal (s : State) :
    (csDeassert s).mcVal = s.mcVal := by
  unfold csDeassert; split <;> simp_all
@[simp] theorem csDeassert_csAct (s : State) :
    (csDeassert s).csAct = false := by
  unfold csDeassert; split <;> simp_all
@[simp] theorem csDeassert_ph (s : State) : (csDeassert s).ph = s.ph := by
  unfold csDeassert; split <;> simp_all
@[simp] theorem csDeassert_cur (s : State) : (csDeassert s).cur = s.cur := by
  unfold csDeassert; split <;> simp_all
@[simp] theorem csDeassert_ai (s : State) : (csDeassert s).ai = s.ai := by
  unfold csDeassert; split <;> simp_all
@[simp] theorem csDeassert_k (s : State) : (csDeassert s).k = s.k := by
  unfold csDeassert; split <;> simp_all
@[simp] theorem csDeassert_i (s : State) : (csDeassert s).i = s.i := by
  unfold csDeassert; split <;> simp_all
@[simp] theorem csDeassert_acc (s : State) : (csDeassert s).acc = s.acc := by
  unfold csDeassert; split <;> simp_all
@[simp] theorem csDeassert_ebuf (s : State) :
    (csDeassert s).ebuf = s.ebuf := by
  unfold csDeassert; split <;> simp_all
@[simp] theorem csDeassert_m (s : State) : (csDeassert s).m = s.m := by
  unfold csDeassert; split <;> simp_all
@[simp] theorem csDeassert_rspSt (s : State) :
    (csDeassert s).rspSt = s.rspSt := by
  unfold csDeassert; split <;> simp_all
@[simp] theorem csDeassert_rspRd (s : State) :
    (csDeassert s).rspRd = s.rspRd := by
  unfold csDeassert; split <;> simp_all
@[simp] theorem csDeassert_dirOpcodeMulti (s : State) :
    (csDeassert s).dirOpcodeMulti = s.dirOpcodeMulti := by
  unfold csDeassert; split <;> simp_all
@[simp] theorem csDeassert_rangeCheck (s : State) :
    (csDeassert s).rangeCheck = s.rangeCheck := by
  unfold csDeassert; split <;> simp_all
@[simp] theorem csDeassert_cmdIn (s : State) :
    (csDeassert s).cmdIn = s.cmdIn := by
  unfold csDeassert; split <;> simp_all
@[simp] theorem csDeassert_wdIn (s : State) :
    (csDeassert s).wdIn = s.wdIn := by
  unfold csDeassert; split <;> simp_all
@[simp] theorem csDeassert_rdReady (s : State) :
    (csDeassert s).rdReady = s.rdReady := by
  unfold csDeassert; split <;> simp_all
@[simp] theorem csDeassert_rspReady (s : State) :
    (csDeassert s).rspReady = s.rspReady := by
  unfold csDeassert; split <;> simp_all
@[simp] theorem csDeassert_bus (s : State) : (csDeassert s).bus = s.bus := by
  unfold csDeassert; split <;> simp_all
@[simp] theorem csDeassert_wire (s : State) :
    (csDeassert s).wire = s.wire := by
  unfold csDeassert; split <;> simp_all
@[simp] theorem csDeassert_wireOut (s : State) :
    (csDeassert s).wireOut = s.wireOut := by
  unfold csDeassert; split <;> simp_all
@[simp] theorem csDeassert_resetIn (s : State) :
    (csDeassert s).resetIn = s.resetIn := by
  unfold csDeassert; split <;> simp_all
@[simp] theorem csDeassert_trace (s : State) :
    (csDeassert s).trace = s.trace ++ (if s.csAct then [.desel] else []) := by
  unfold csDeassert; split <;> simp_all

/-! ### The frame check of the reference device (R66) -/

@[simp] theorem checkFrame_cfgInit (a : Access) (t : Byte) (s : State) :
    (checkFrame a t s).cfgInit = s.cfgInit := by
  unfold checkFrame; split_ifs <;> simp
@[simp] theorem checkFrame_cfgCapKbit (a : Access) (t : Byte) (s : State) :
    (checkFrame a t s).cfgCapKbit = s.cfgCapKbit := by
  unfold checkFrame; split_ifs <;> simp
@[simp] theorem checkFrame_cfgAddr3 (a : Access) (t : Byte) (s : State) :
    (checkFrame a t s).cfgAddr3 = s.cfgAddr3 := by
  unfold checkFrame; split_ifs <;> simp
@[simp] theorem checkFrame_cfgHoldEn (a : Access) (t : Byte) (s : State) :
    (checkFrame a t s).cfgHoldEn = s.cfgHoldEn := by
  unfold checkFrame; split_ifs <;> simp
@[simp] theorem checkFrame_mcV (a : Access) (t : Byte) (s : State) :
    (checkFrame a t s).mcV = s.mcV := by
  unfold checkFrame; split_ifs <;> simp
@[simp] theorem checkFrame_mcVal (a : Access) (t : Byte) (s : State) :
    (checkFrame a t s).mcVal = s.mcVal := by
  unfold checkFrame; split_ifs <;> simp
@[simp] theorem checkFrame_csAct (a : Access) (t : Byte) (s : State) :
    (checkFrame a t s).csAct = s.csAct := by
  unfold checkFrame; split_ifs <;> simp
@[simp] theorem checkFrame_ph (a : Access) (t : Byte) (s : State) :
    (checkFrame a t s).ph = s.ph := by
  unfold checkFrame; split_ifs <;> simp
@[simp] theorem checkFrame_cur (a : Access) (t : Byte) (s : State) :
    (checkFrame a t s).cur = s.cur := by
  unfold checkFrame; split_ifs <;> simp
@[simp] theorem checkFrame_ai (a : Access) (t : Byte) (s : State) :
    (checkFrame a t s).ai = s.ai := by
  unfold checkFrame; split_ifs <;> simp
@[simp] theorem checkFrame_k (a : Access) (t : Byte) (s : State) :
    (checkFrame a t s).k = s.k := by
  unfold checkFrame; split_ifs <;> simp
@[simp] theorem checkFrame_i (a : Access) (t : Byte) (s : State) :
    (checkFrame a t s).i = s.i := by
  unfold checkFrame; split_ifs <;> simp
@[simp] theorem checkFrame_acc (a : Access) (t : Byte) (s : State) :
    (checkFrame a t s).acc = s.acc := by
  unfold checkFrame; split_ifs <;> simp
@[simp] theorem checkFrame_ebuf (a : Access) (t : Byte) (s : State) :
    (checkFrame a t s).ebuf = s.ebuf := by
  unfold checkFrame; split_ifs <;> simp
@[simp] theorem checkFrame_m (a : Access) (t : Byte) (s : State) :
    (checkFrame a t s).m = s.m := by
  unfold checkFrame; split_ifs <;> simp
@[simp] theorem checkFrame_rspSt (a : Access) (t : Byte) (s : State) :
    (checkFrame a t s).rspSt = s.rspSt := by
  unfold checkFrame; split_ifs <;> simp
@[simp] theorem checkFrame_rspRd (a : Access) (t : Byte) (s : State) :
    (checkFrame a t s).rspRd = s.rspRd := by
  unfold checkFrame; split_ifs <;> simp
@[simp] theorem checkFrame_dirOpcodeMulti (a : Access) (t : Byte) (s : State) :
    (checkFrame a t s).dirOpcodeMulti = s.dirOpcodeMulti := by
  unfold checkFrame; split_ifs <;> simp
@[simp] theorem checkFrame_rangeCheck (a : Access) (t : Byte) (s : State) :
    (checkFrame a t s).rangeCheck = s.rangeCheck := by
  unfold checkFrame; split_ifs <;> simp
@[simp] theorem checkFrame_cmdIn (a : Access) (t : Byte) (s : State) :
    (checkFrame a t s).cmdIn = s.cmdIn := by
  unfold checkFrame; split_ifs <;> simp
@[simp] theorem checkFrame_wdIn (a : Access) (t : Byte) (s : State) :
    (checkFrame a t s).wdIn = s.wdIn := by
  unfold checkFrame; split_ifs <;> simp
@[simp] theorem checkFrame_rdReady (a : Access) (t : Byte) (s : State) :
    (checkFrame a t s).rdReady = s.rdReady := by
  unfold checkFrame; split_ifs <;> simp
@[simp] theorem checkFrame_rspReady (a : Access) (t : Byte) (s : State) :
    (checkFrame a t s).rspReady = s.rspReady := by
  unfold checkFrame; split_ifs <;> simp
@[simp] theorem checkFrame_bus (a : Access) (t : Byte) (s : State) :
    (checkFrame a t s).bus = s.bus := by
  unfold checkFrame; split_ifs <;> simp
@[simp] theorem checkFrame_wire (a : Access) (t : Byte) (s : State) :
    (checkFrame a t s).wire = s.wire := by
  unfold checkFrame; split_ifs <;> simp
@[simp] theorem checkFrame_wireOut (a : Access) (t : Byte) (s : State) :
    (checkFrame a t s).wireOut = s.wireOut := by
  unfold checkFrame; split_ifs <;> simp
@[simp] theorem checkFrame_resetIn (a : Access) (t : Byte) (s : State) :
    (checkFrame a t s).resetIn = s.resetIn := by
  unfold checkFrame; split_ifs <;> simp
@[simp] theorem checkFrame_trace (a : Access) (t : Byte) (s : State) :
    (checkFrame a t s).trace = s.trace := by
  unfold checkFrame; split_ifs <;> simp

/-! ### DO_INIT (R155) -/

@[simp] theorem doInit_cfgInit (s : State) : (doInit s).cfgInit = true := by
  simp [doInit]
@[simp] theorem doInit_cfgCapKbit (s : State) : (doInit s).cfgCapKbit = s.curAddr := by
  simp [doInit]
@[simp] theorem doInit_cfgAddr3 (s : State) : (doInit s).cfgAddr3 = addr3Of s.curAddr.toNat := by
  simp [doInit]
@[simp] theorem doInit_cfgHoldEn (s : State) : (doInit s).cfgHoldEn = s.curWdata.getLsbD 0 := by
  simp [doInit]
@[simp] theorem doInit_mcV (s : State) : (doInit s).mcV = false := by
  simp [doInit]
@[simp] theorem doInit_mcVal (s : State) : (doInit s).mcVal = 0x00 := by
  simp [doInit]
@[simp] theorem doInit_csAct (s : State) : (doInit s).csAct = false := by
  simp [doInit]
@[simp] theorem doInit_ph (s : State) : (doInit s).ph = s.ph := by
  simp [doInit]
@[simp] theorem doInit_cur (s : State) : (doInit s).cur = s.cur := by
  simp [doInit]
@[simp] theorem doInit_ai (s : State) : (doInit s).ai = s.ai := by
  simp [doInit]
@[simp] theorem doInit_k (s : State) : (doInit s).k = s.k := by
  simp [doInit]
@[simp] theorem doInit_i (s : State) : (doInit s).i = s.i := by
  simp [doInit]
@[simp] theorem doInit_acc (s : State) : (doInit s).acc = s.acc := by
  simp [doInit]
@[simp] theorem doInit_ebuf (s : State) : (doInit s).ebuf = s.ebuf := by
  simp [doInit]
@[simp] theorem doInit_m (s : State) : (doInit s).m = s.m := by
  simp [doInit]
@[simp] theorem doInit_rspSt (s : State) : (doInit s).rspSt = s.rspSt := by
  simp [doInit]
@[simp] theorem doInit_rspRd (s : State) : (doInit s).rspRd = s.rspRd := by
  simp [doInit]
@[simp] theorem doInit_dirOpcodeMulti (s : State) : (doInit s).dirOpcodeMulti = s.dirOpcodeMulti := by
  simp [doInit]
@[simp] theorem doInit_rangeCheck (s : State) : (doInit s).rangeCheck = s.rangeCheck := by
  simp [doInit]
@[simp] theorem doInit_cmdIn (s : State) : (doInit s).cmdIn = s.cmdIn := by
  simp [doInit]
@[simp] theorem doInit_wdIn (s : State) : (doInit s).wdIn = s.wdIn := by
  simp [doInit]
@[simp] theorem doInit_rdReady (s : State) : (doInit s).rdReady = s.rdReady := by
  simp [doInit]
@[simp] theorem doInit_rspReady (s : State) : (doInit s).rspReady = s.rspReady := by
  simp [doInit]
@[simp] theorem doInit_bus (s : State) : (doInit s).bus = s.bus := by
  simp [doInit]
@[simp] theorem doInit_wire (s : State) : (doInit s).wire = s.wire := by
  simp [doInit]
@[simp] theorem doInit_wireOut (s : State) : (doInit s).wireOut = s.wireOut := by
  simp [doInit]
@[simp] theorem doInit_resetIn (s : State) : (doInit s).resetIn = s.resetIn := by
  simp [doInit]
@[simp] theorem doInit_trace (s : State) :
    (doInit s).trace = s.trace ++ (if s.csAct then [.desel] else []) := by
  simp [doInit]

/-! ### Reset (R215) -/

@[simp] theorem coreReset_cfgInit (s : State) : (coreReset s).cfgInit = State.reset.cfgInit := rfl
@[simp] theorem coreReset_cfgCapKbit (s : State) : (coreReset s).cfgCapKbit = State.reset.cfgCapKbit := rfl
@[simp] theorem coreReset_cfgAddr3 (s : State) : (coreReset s).cfgAddr3 = State.reset.cfgAddr3 := rfl
@[simp] theorem coreReset_cfgHoldEn (s : State) : (coreReset s).cfgHoldEn = State.reset.cfgHoldEn := rfl
@[simp] theorem coreReset_mcV (s : State) : (coreReset s).mcV = State.reset.mcV := rfl
@[simp] theorem coreReset_mcVal (s : State) : (coreReset s).mcVal = State.reset.mcVal := rfl
@[simp] theorem coreReset_csAct (s : State) : (coreReset s).csAct = State.reset.csAct := rfl
@[simp] theorem coreReset_ph (s : State) : (coreReset s).ph = State.reset.ph := rfl
@[simp] theorem coreReset_cur (s : State) : (coreReset s).cur = State.reset.cur := rfl
@[simp] theorem coreReset_ai (s : State) : (coreReset s).ai = State.reset.ai := rfl
@[simp] theorem coreReset_k (s : State) : (coreReset s).k = State.reset.k := rfl
@[simp] theorem coreReset_i (s : State) : (coreReset s).i = State.reset.i := rfl
@[simp] theorem coreReset_acc (s : State) : (coreReset s).acc = State.reset.acc := rfl
@[simp] theorem coreReset_ebuf (s : State) : (coreReset s).ebuf = State.reset.ebuf := rfl
@[simp] theorem coreReset_m (s : State) : (coreReset s).m = State.reset.m := rfl
@[simp] theorem coreReset_rspSt (s : State) : (coreReset s).rspSt = State.reset.rspSt := rfl
@[simp] theorem coreReset_rspRd (s : State) : (coreReset s).rspRd = State.reset.rspRd := rfl
@[simp] theorem coreReset_dirOpcodeMulti (s : State) : (coreReset s).dirOpcodeMulti = s.dirOpcodeMulti := rfl
@[simp] theorem coreReset_rangeCheck (s : State) : (coreReset s).rangeCheck = s.rangeCheck := rfl
@[simp] theorem coreReset_cmdIn (s : State) : (coreReset s).cmdIn = s.cmdIn := rfl
@[simp] theorem coreReset_wdIn (s : State) : (coreReset s).wdIn = s.wdIn := rfl
@[simp] theorem coreReset_rdReady (s : State) : (coreReset s).rdReady = s.rdReady := rfl
@[simp] theorem coreReset_rspReady (s : State) : (coreReset s).rspReady = s.rspReady := rfl
@[simp] theorem coreReset_bus (s : State) : (coreReset s).bus = s.bus := rfl
@[simp] theorem coreReset_dev (s : State) : (coreReset s).dev = (s.onDevice (cutDevice s)).dev := rfl
@[simp] theorem coreReset_wire (s : State) : (coreReset s).wire = s.wire := rfl
@[simp] theorem coreReset_wireOut (s : State) : (coreReset s).wireOut = s.wireOut := rfl
@[simp] theorem coreReset_resetIn (s : State) : (coreReset s).resetIn = none := rfl
@[simp] theorem coreReset_trace (s : State) :
    (coreReset s).trace = s.trace ++ (.reset :: if s.csAct then [.desel] else []) := rfl

end Sys2Proof.Machine
end

