-- ==== Sys2Proof/Laws/RefDevice.lean ====
section
/-! SUPPORT. The reference device: what each of its operations leaves as it was (its capacity, the BAD mark once set,
the canonical form of DMEM), and the device behind the chip-select primitives. -/

namespace Sys2Proof.Machine

open Sys2Proof

/-! ### The address sequence (R65) -/

/-- Every address of a frame lies in the device. -/
theorem daddr_lt {mode : Mode} {cap a j x : Nat} (hc : 0 < cap) (h : daddr mode cap a j = some x) : x < cap := by
  cases mode with
  | sequential => simp only [daddr, Option.some.injEq] at h; subst h; exact Nat.mod_lt _ hc
  | page => simp only [daddr, Option.some.injEq] at h; subst h; exact Nat.mod_lt _ hc
  | byte =>
    simp only [daddr] at h
    split at h
    · simp only [Option.some.injEq] at h; subst h; exact Nat.mod_lt _ hc
    · exact absurd h (by simp)

/-- Each mode byte the CORE writes selects its own mode, HOLD or not (R63, R105, R106). -/
theorem modeOfByte_requestedMode (a : Access) (hold : Bool) :
    modeOfByte (requestedMode a hold) = some (modeOf a) := by
  cases a with
  | mk kind width read => cases kind <;> cases width <;> cases read <;> cases hold <;> decide

/-! ### What a byte does -/

@[simp] theorem Device.draw_mem (d : Device) : d.draw.2.mem = d.mem := rfl
@[simp] theorem Device.draw_bad (d : Device) : d.draw.2.bad = d.bad := rfl
@[simp] theorem Device.draw_capKbit (d : Device) : d.draw.2.capKbit = d.capKbit := rfl
@[simp] theorem Device.draw_dmode (d : Device) : d.draw.2.dmode = d.dmode := rfl
@[simp] theorem Device.draw_frame (d : Device) : d.draw.2.frame = d.frame := rfl
/-- The BAD mark: set, for good; the capacity stays and DMEM keeps its canonical form. -/
@[simp] theorem Device.fail_bad (d : Device) : d.fail.bad = true := by
  unfold Device.fail; split
  · assumption
  · rfl

@[simp] theorem Device.fail_capKbit (d : Device) : d.fail.capKbit = d.capKbit := by
  unfold Device.fail; split <;> rfl

@[simp] theorem Device.fail_fail (d : Device) : d.fail.fail = d.fail := by
  rw [Device.fail, if_pos d.fail_bad]

theorem Device.fail_wf {d : Device} (h : Memory.wf d.mem = true) : Memory.wf d.fail.mem = true := by
  unfold Device.fail; split
  · exact h
  · rfl

/-- The mark leaves DMODE as it is (R66). -/
@[simp] theorem Device.fail_dmode (d : Device) : d.fail.dmode = d.dmode := by
  unfold Device.fail; split <;> rfl

theorem Device.fail_of_bad {d : Device} (h : d.bad = true) : d.fail = d := by
  simp [Device.fail, h]

/-- On an unmarked device the byte at an address is the one DMEM holds. -/
theorem Device.read_of_good {d : Device} (h : d.bad = false) (x : Nat) : d.read x = Memory.read d.epoch d.mem x := by
  simp [Device.read, h]

@[simp] theorem Device.select_mem (d : Device) : d.select.mem = d.mem := rfl
@[simp] theorem Device.select_bad (d : Device) : d.select.bad = d.bad := rfl
@[simp] theorem Device.select_capKbit (d : Device) : d.select.capKbit = d.capKbit := rfl
@[simp] theorem Device.select_dmode (d : Device) : d.select.dmode = d.dmode := rfl
@[simp] theorem Device.select_frame (d : Device) : d.select.frame = .start := rfl
@[simp] theorem Device.forgetMode_mem (d : Device) : d.forgetMode.mem = d.mem := rfl
@[simp] theorem Device.forgetMode_bad (d : Device) : d.forgetMode.bad = d.bad := rfl
@[simp] theorem Device.forgetMode_capKbit (d : Device) : d.forgetMode.capKbit = d.capKbit := rfl

/-- The end of a frame keeps DMEM unless it marks the device BAD, and its canonical form always. -/
theorem Device.deselect_mem {d : Device} (h : d.deselect.bad = false) : d.deselect.mem = d.mem := by
  revert h; unfold Device.deselect; split <;> simp

theorem Device.deselect_wf {d : Device} (h : Memory.wf d.mem = true) : Memory.wf d.deselect.mem = true := by
  unfold Device.deselect; split
  · exact Device.fail_wf h
  all_goals exact h

@[simp] theorem Device.deselect_capKbit (d : Device) : d.deselect.capKbit = d.capKbit := by
  unfold Device.deselect; split <;> first | rfl | simp

@[simp] theorem Device.deselect_frame (d : Device) : d.deselect.frame = .closed := by
  unfold Device.deselect; split <;> rfl

/-- A frame that ends keeps the BAD mark. -/
theorem Device.deselect_bad_of_bad {d : Device} (h : d.bad = true) : d.deselect.bad = true := by
  unfold Device.deselect; split <;> simp [h]

/-- Everything an instruction byte at the start of a frame can do to DMEM, the mark and the capacity. -/
theorem Device.instruction_frame (d : Device) (tx : Byte) :
    (d.instruction tx).2.capKbit = d.capKbit
      ∧ ((d.instruction tx).2.bad = false → (d.instruction tx).2.mem = d.mem)
      ∧ (Memory.wf d.mem = true → Memory.wf (d.instruction tx).2.mem = true) := by
  unfold Device.instruction
  split
  all_goals first
    | exact ⟨rfl, fun _ => rfl, id⟩
    | exact ⟨by simp, fun h => absurd h (by simp), Device.fail_wf⟩

/-- Everything a data byte can do: DMEM is written at the byte's address in a write frame, and nowhere else. -/
theorem Device.dataByte_cases (d : Device) (read : Bool) (a j : Nat) (tx : Byte) :
    (d.target a j = none ∧ d.dataByte read a j tx = d.fail.draw)
      ∨ (∃ x, d.target a j = some x ∧ read = true
          ∧ d.dataByte read a j tx = (d.read x, { d with frame := .data read a (j + 1) }))
      ∨ ∃ x, d.target a j = some x ∧ read = false
          ∧ d.dataByte read a j tx =
            (d.draw.1, { d.draw.2 with mem := Memory.write d.mem x tx, frame := .data read a (j + 1) }) := by
  unfold Device.dataByte
  split
  · next h => exact .inl ⟨h, rfl⟩
  · next x h =>
    cases read with
    | true => exact .inr (.inl ⟨x, h, rfl, rfl⟩)
    | false => exact .inr (.inr ⟨x, h, rfl, rfl⟩)

/-- What a byte still does on a marked device is a matter of DMODE and the frame parser alone. -/
theorem Device.follow_keeps (d : Device) (tx : Byte) :
    (d.follow tx).mem = d.mem ∧ (d.follow tx).bad = d.bad ∧ (d.follow tx).capKbit = d.capKbit
      ∧ (d.follow tx).draws = d.draws := by
  unfold Device.follow; split <;> exact ⟨rfl, rfl, rfl, rfl⟩

/-- On a marked device DMODE changes with the mode byte of a mode-write frame alone (R63). -/
theorem Device.follow_dmode (d : Device) (tx : Byte) :
    (d.follow tx).dmode = if d.frame = .modeVal then .written tx else d.dmode := by
  unfold Device.follow; split <;> simp_all

/-- A device with the BAD mark gives a free value for every byte (R66). -/
theorem Device.byte_of_bad {d : Device} (h : d.bad = true) (tx : Byte) :
    d.byte tx = (d.draw.1, d.draw.2.follow tx) := by
  unfold Device.byte; simp [h]

/-- The mode byte becomes DMODE, whatever it is (R63). -/
@[simp] theorem Device.modeWrite_dmode (d : Device) (b1 : Byte) : (d.modeWrite b1).2.dmode = .written b1 := by
  unfold Device.modeWrite; split <;> rfl

@[simp] theorem Device.modeWrite_capKbit (d : Device) (b1 : Byte) : (d.modeWrite b1).2.capKbit = d.capKbit := by
  unfold Device.modeWrite; split <;> simp

theorem Device.modeWrite_wf {d : Device} (b1 : Byte) (h : Memory.wf d.mem = true) :
    Memory.wf (d.modeWrite b1).2.mem = true := by
  unfold Device.modeWrite; split
  · exact h
  · exact Device.fail_wf h

/-- A misframed data frame marks the device, keeps its capacity and the canonical form of DMEM (R67). -/
theorem Device.misframe_keeps (t : Byte) (d : Device) :
    (d.misframe t).bad = true ∧ (d.misframe t).capKbit = d.capKbit
      ∧ (Memory.wf d.mem = true → Memory.wf (d.misframe t).mem = true) := by
  unfold Device.misframe
  split
  · split
    · exact ⟨d.fail_bad, d.fail_capKbit, Device.fail_wf⟩
    · exact ⟨d.fail_bad, d.fail_capKbit, Device.fail_wf⟩
  · exact ⟨d.fail_bad, d.fail_capKbit, Device.fail_wf⟩

/-- The capacity is a property of the platform: no byte changes it (R222). -/
@[simp] theorem Device.byte_capKbit (d : Device) (tx : Byte) : (d.byte tx).2.capKbit = d.capKbit := by
  unfold Device.byte
  split
  · exact (d.draw.2.follow_keeps tx).2.2.1
  · split
    · rfl
    · exact (d.instruction_frame tx).1
    · simp
    · simp
    · rfl
    · obtain ⟨-, h⟩ | ⟨x, -, -, h⟩ | ⟨x, -, -, h⟩ := d.dataByte_cases _ _ _ tx <;> rw [h] <;> simp
    · rfl
    · rfl

/-- No byte clears the BAD mark (R66, R202). -/
theorem Device.byte_bad_of_bad {d : Device} (h : d.bad = true) (tx : Byte) : (d.byte tx).2.bad = true := by
  rw [Device.byte_of_bad h, (d.draw.2.follow_keeps tx).2.1]; exact h

/-- Every byte keeps the canonical form of DMEM. -/
theorem Device.byte_wf {d : Device} (h : Memory.wf d.mem = true) (tx : Byte) :
    Memory.wf (d.byte tx).2.mem = true := by
  unfold Device.byte
  split
  · rw [(d.draw.2.follow_keeps tx).1]; exact h
  · split
    · exact h
    · exact (d.instruction_frame tx).2.2 h
    · exact Device.modeWrite_wf tx h
    · exact Device.fail_wf h
    · exact h
    · obtain ⟨-, e⟩ | ⟨x, -, -, e⟩ | ⟨x, -, -, e⟩ := d.dataByte_cases _ _ _ tx
      · rw [e]; exact Device.fail_wf h
      · rw [e]; exact h
      · rw [e]; exact Memory.wf_write x tx h
    · exact h
    · exact h

/-! ### What a reset cut does (R216) -/

/-- Forgetting bytes keeps the capacity, the mark and the canonical form. -/
theorem Device.forgetBytes_keeps (mode : Mode) (a : Nat) (n : Nat) :
    ∀ (d : Device) (j : Nat),
      (d.forgetBytes mode a j n).capKbit = d.capKbit ∧ (d.forgetBytes mode a j n).bad = d.bad
        ∧ (d.forgetBytes mode a j n).frame = d.frame ∧ (d.forgetBytes mode a j n).dmode = d.dmode
        ∧ (Memory.wf d.mem = true → Memory.wf (d.forgetBytes mode a j n).mem = true) := by
  induction n with
  | zero => intro d j; exact ⟨rfl, rfl, rfl, rfl, id⟩
  | succ n ih =>
    intro d j
    unfold Device.forgetBytes
    split
    · exact ⟨rfl, rfl, rfl, rfl, id⟩
    · next x _ =>
      obtain ⟨h1, h2, h3, h4, h5⟩ := ih { d.draw.2 with mem := Memory.write d.mem x d.draw.1 } (j + 1)
      exact ⟨h1, h2, h3, h4, fun h => h5 (Memory.wf_write x _ h)⟩

/-- The write that a reset cuts changes DMEM only. -/
theorem cutWrite_keeps (s : State) (d : Device) :
    (cutWrite s d).capKbit = d.capKbit ∧ (cutWrite s d).bad = d.bad ∧ (cutWrite s d).frame = d.frame
      ∧ (cutWrite s d).dmode = d.dmode ∧ (Memory.wf d.mem = true → Memory.wf (cutWrite s d).mem = true) := by
  unfold cutWrite
  split
  · exact ⟨rfl, rfl, rfl, rfl, id⟩
  · split
    · exact ⟨rfl, rfl, rfl, rfl, id⟩
    · split
      · exact ⟨rfl, rfl, rfl, rfl, id⟩
      · exact Device.forgetBytes_keeps _ _ _ d _

/-- A cut byte keeps the capacity, the frame and the canonical form of DMEM, and clears no BAD mark. -/
theorem cutInstruction_keeps (s : State) (d : Device) :
    (cutInstruction s d).capKbit = d.capKbit ∧ (d.bad = true → (cutInstruction s d).bad = true)
      ∧ (cutInstruction s d).frame = d.frame
      ∧ (Memory.wf d.mem = true → Memory.wf (cutInstruction s d).mem = true) := by
  unfold cutInstruction
  split
  · exact ⟨rfl, fun h => by simp [Device.cutByte, h], rfl, fun _ => rfl⟩
  · exact ⟨rfl, id, rfl, id⟩

/-- Where the device was not about to take an instruction or a mode byte, the cut byte itself changes nothing. -/
theorem cutInstruction_of_none {s : State} {d : Device}
    (h : ¬ (bytePending s.ph = true ∧ (d.frame = .start ∨ d.frame = .modeVal))) : cutInstruction s d = d :=
  if_neg h

/-- A reset keeps the device's capacity and the canonical form of DMEM, and clears no BAD mark. -/
theorem cutDevice_keeps (s : State) (d : Device) :
    (cutDevice s d).capKbit = d.capKbit ∧ (d.bad = true → (cutDevice s d).bad = true)
      ∧ (Memory.wf d.mem = true → Memory.wf (cutDevice s d).mem = true) := by
  obtain ⟨i1, i2, -, i4⟩ := cutInstruction_keeps s d
  obtain ⟨w1, w2, -, -, w5⟩ := cutWrite_keeps s (cutInstruction s d)
  unfold cutDevice
  split
  · exact ⟨by simp [w1, i1], fun h => Device.deselect_bad_of_bad (by rw [w2, i2 h]),
      fun h => Device.deselect_wf (w5 (i4 h))⟩
  · exact ⟨by rw [w1, i1], fun h => by rw [w2, i2 h], fun h => w5 (i4 h)⟩

/-! ### The device behind the line -/

/-- What is true of the device and kept by f is true after f reaches it, or does not. -/
theorem State.onDevice_dev {s : State} {f : Device → Device} (P : Device → Prop) (h : P s.dev)
    (hf : P s.dev → P (f s.dev)) : P (s.onDevice f).dev := by
  unfold State.onDevice
  split
  · exact h
  · exact hf h

/-- SEL moves the frame parser only; DESEL keeps the capacity and the canonical form of DMEM. -/
@[simp] theorem csAssert_dev_mem (s : State) : (csAssert s).dev.mem = s.dev.mem := by
  unfold csAssert
  split
  · rfl
  · exact State.onDevice_dev (s := { s with csAct := true }) (fun d => d.mem = s.dev.mem) rfl fun h => h

@[simp] theorem csAssert_dev_capKbit (s : State) : (csAssert s).dev.capKbit = s.dev.capKbit := by
  unfold csAssert
  split
  · rfl
  · exact State.onDevice_dev (s := { s with csAct := true }) (fun d => d.capKbit = s.dev.capKbit) rfl fun h => h

theorem csDeassert_dev_wf {s : State} (h : Memory.wf s.dev.mem = true) :
    Memory.wf (csDeassert s).dev.mem = true := by
  unfold csDeassert
  split
  · exact State.onDevice_dev (s := { s with csAct := false }) (fun d => Memory.wf d.mem = true) h
      Device.deselect_wf
  · exact h

@[simp] theorem csDeassert_dev_capKbit (s : State) : (csDeassert s).dev.capKbit = s.dev.capKbit := by
  unfold csDeassert
  split
  · exact State.onDevice_dev (s := { s with csAct := false }) (fun d => d.capKbit = s.dev.capKbit) rfl
      fun _ => by rw [Device.deselect_capKbit]
  · rfl

/-- Neither primitive clears the BAD mark. -/
theorem csAssert_dev_bad {s : State} (h : s.dev.bad = true) : (csAssert s).dev.bad = true := by
  unfold csAssert
  split
  · exact h
  · exact State.onDevice_dev (s := { s with csAct := true }) (fun d => d.bad = true) h fun h => h

theorem csDeassert_dev_bad {s : State} (h : s.dev.bad = true) : (csDeassert s).dev.bad = true := by
  unfold csDeassert
  split
  · exact State.onDevice_dev (s := { s with csAct := false }) (fun d => d.bad = true) h
      Device.deselect_bad_of_bad
  · exact h

/-- The frame check keeps what a mark and a misframed frame keep. -/
theorem checkFrame_dev {a : Access} {t : Byte} {s : State} (P : Device → Prop) (h : P s.dev)
    (hm : P s.dev → P (s.dev.misframe t)) (hf : P s.dev → P s.dev.fail) : P (checkFrame a t s).dev := by
  unfold checkFrame
  split
  · exact State.onDevice_dev P h hm
  · split
    · exact State.onDevice_dev P h hf
    · exact h

/-- It keeps the canonical form of DMEM and the capacity. -/
theorem checkFrame_dev_wf (a : Access) (t : Byte) {s : State} (h : Memory.wf s.dev.mem = true) :
    Memory.wf (checkFrame a t s).dev.mem = true :=
  checkFrame_dev (fun d => Memory.wf d.mem = true) h (s.dev.misframe_keeps t).2.2 Device.fail_wf

@[simp] theorem checkFrame_dev_capKbit (a : Access) (t : Byte) (s : State) :
    (checkFrame a t s).dev.capKbit = s.dev.capKbit :=
  checkFrame_dev (fun d => d.capKbit = s.dev.capKbit) rfl (fun _ => (s.dev.misframe_keeps t).2.1)
    fun _ => s.dev.fail_capKbit

/-- DMEM is in canonical form after reset. -/
theorem reset_mem_wf : Memory.wf State.reset.dev.mem = true := rfl

/-- A frame the device understands passes the check unmarked. -/
theorem checkFrame_of_fits {a : Access} {s : State} (h1 : usesDir a s.dirOpcodeMulti = true)
    (h2 : addrBytes s.cfgAddr3 = s.dev.addrBytes) (t : Byte) : checkFrame a t s = s := by
  simp [checkFrame, h1, h2]

end Sys2Proof.Machine
end

