-- ==== Sys2Proof/Laws/Ops.lean ====
section
/-! SUPPORT. What each shared operation can do when it answers: byte transfers (R13), the streams (R117) and the
response (R192). -/

namespace Sys2Proof.Machine

open Sys2Proof

/-- A transfer takes the next byte of an oracle, or shifts one byte through the reference device. -/
theorem transfer_cases {t r : Byte} {s s' : State} (h : transfer t s = some (r, s')) :
    (∃ rest, s.bus = .oracle (r :: rest) ∧ s' = { s with bus := .oracle rest })
      ∨ (s.bus = .device ∧ r = (s.dev.byte t).1 ∧ s' = { s with dev := (s.dev.byte t).2 }) := by
  unfold transfer at h
  split at h
  · exact absurd h (by simp)
  · next r' rest hb =>
    simp only [Option.some.injEq, Prod.mk.injEq] at h
    exact .inl ⟨rest, by rw [hb, h.1], h.2.symm⟩
  · next hb =>
    simp only [Option.some.injEq, Prod.mk.injEq] at h
    exact .inr ⟨hb, h.1.symm, h.2.symm⟩

/-- A transfer waits exactly for an oracle with no more bytes (R223). -/
theorem transfer_eq_none {t : Byte} {s : State} : transfer t s = none ↔ s.bus = .oracle [] := by
  unfold transfer
  split
  · next h => simp [h]
  · next h => simp [h]
  · next h => simp [h]

/-- A transfer moves the BUS and the device, and nothing of the CORE. -/
theorem transfer_frame {t r : Byte} {s s' : State} (h : transfer t s = some (r, s')) :
    s' = { s with bus := s'.bus, dev := s'.dev } := by
  obtain ⟨rest, -, rfl⟩ | ⟨-, -, rfl⟩ := transfer_cases h <;> rfl

/-- A transfer clears no BAD mark, keeps the device's capacity and the canonical form of DMEM. -/
theorem transfer_device {t r : Byte} {s s' : State} (h : transfer t s = some (r, s')) :
    s'.dev.capKbit = s.dev.capKbit ∧ (s.dev.bad = true → s'.dev.bad = true ∧ s'.dev.mem = s.dev.mem)
      ∧ (Memory.wf s.dev.mem = true → Memory.wf s'.dev.mem = true) := by
  obtain ⟨rest, -, rfl⟩ | ⟨-, -, rfl⟩ := transfer_cases h
  · exact ⟨rfl, fun h => ⟨h, rfl⟩, id⟩
  · refine ⟨Device.byte_capKbit _ _, fun h => ⟨Device.byte_bad_of_bad h t, ?_⟩, fun h => Device.byte_wf h t⟩
    show (s.dev.byte t).2.mem = s.dev.mem
    rw [Device.byte_of_bad h, (s.dev.draw.2.follow_keeps t).1, Device.draw_mem]

/-- Which BUS answers does not change. -/
theorem transfer_bus_device {t r : Byte} {s s' : State} (h : transfer t s = some (r, s')) :
    s'.bus = .device ↔ s.bus = .device := by
  obtain ⟨rest, hb, rfl⟩ | ⟨hb, -, rfl⟩ := transfer_cases h
  · simp [hb]
  · simp [hb]

/-- A sent byte is one transfer and the event X(t). -/
theorem sendByte_cases {t : Byte} {s s' : State} (h : sendByte t s = some s') :
    ∃ r u, transfer t s = some (r, u) ∧ s' = u.emit (.xfer t) := by
  unfold sendByte at h
  split at h
  · exact absurd h (by simp)
  · next r u hu =>
    simp only [Option.some.injEq] at h
    exact ⟨r, u, hu, h.symm⟩

/-- A sent byte changes the BUS, the device and the trace, and nothing else. -/
theorem sendByte_frame {t : Byte} {s s' : State} (h : sendByte t s = some s') :
    s' = { s with bus := s'.bus, dev := s'.dev, trace := s.trace ++ [.xfer t] } := by
  obtain ⟨r, u, hu, rfl⟩ := sendByte_cases h
  rw [transfer_frame hu]; rfl

theorem sendByte_eq_none {t : Byte} {s : State} : sendByte t s = none ↔ s.bus = .oracle [] := by
  unfold sendByte
  split
  · next h => exact ⟨fun _ => transfer_eq_none.1 h, fun _ => rfl⟩
  · next h => exact ⟨fun h' => absurd h' (by simp), fun h' => absurd (transfer_eq_none.2 h' ▸ h) (by simp)⟩

/-- A received byte is one transfer and the event X(t→r). -/
theorem recvByte_cases {t r : Byte} {s s' : State} (h : recvByte t s = some (r, s')) :
    ∃ u, transfer t s = some (r, u) ∧ s' = u.emit (.xferKeep t r) := by
  unfold recvByte at h
  split at h
  · exact absurd h (by simp)
  · next r' u hu =>
    simp only [Option.some.injEq, Prod.mk.injEq] at h
    exact ⟨u, by rw [hu, h.1], by rw [← h.2, h.1]⟩

/-- A received byte changes the BUS, the device and the trace, and nothing else. -/
theorem recvByte_frame {t r : Byte} {s s' : State} (h : recvByte t s = some (r, s')) :
    s' = { s with bus := s'.bus, dev := s'.dev, trace := s.trace ++ [.xferKeep t r] } := by
  obtain ⟨u, hu, rfl⟩ := recvByte_cases h
  rw [transfer_frame hu]; rfl

theorem recvByte_eq_none {t : Byte} {s : State} : recvByte t s = none ↔ s.bus = .oracle [] := by
  unfold recvByte
  split
  · next h => exact ⟨fun _ => transfer_eq_none.1 h, fun _ => rfl⟩
  · next h => exact ⟨fun h' => absurd h' (by simp), fun h' => absurd (transfer_eq_none.2 h' ▸ h) (by simp)⟩

/-- A write element is the first the HOST offers (R117). -/
theorem takeElement_cases {e : Data} {s s' : State} (h : takeElement s = some (e, s')) :
    ∃ rest, s.wdIn = e :: rest ∧ s' = { s with wdIn := rest, trace := s.trace ++ [.wd e] } := by
  unfold takeElement at h
  split at h
  · exact absurd h (by simp)
  · next e' rest hw =>
    simp only [Option.some.injEq, Prod.mk.injEq] at h
    obtain ⟨rfl, rfl⟩ := h
    exact ⟨rest, hw, rfl⟩

theorem takeElement_eq_none {s : State} : takeElement s = none ↔ s.wdIn = [] := by
  unfold takeElement
  split <;> next h => simp [h]

/-- A read element goes to a HOST that takes it (R117). -/
theorem giveElement_cases {e : Data} {s s' : State} (h : giveElement e s = some s') :
    ∃ r, s.rdReady.take = some r ∧ s' = { s with rdReady := r, trace := s.trace ++ [.rd e] } := by
  unfold giveElement at h
  split at h
  · exact absurd h (by simp)
  · next r hr =>
    simp only [Option.some.injEq] at h
    exact ⟨r, hr, h.symm⟩

theorem giveElement_eq_none {e : Data} {s : State} : giveElement e s = none ↔ s.rdReady.take = none := by
  unfold giveElement
  split <;> next h => simp [h]

/-- The response goes to a HOST that takes it, and the CORE is idle (R192). -/
theorem giveResponse_cases {s s' : State} (h : giveResponse s = some s') :
    ∃ r, s.rspReady.take = some r
      ∧ s' = { s with rspReady := r, ph := .idle, trace := s.trace ++ [.rsp s.rspSt s.rspRd] } := by
  unfold giveResponse at h
  split at h
  · exact absurd h (by simp)
  · next r hr =>
    simp only [Option.some.injEq] at h
    exact ⟨r, hr, h.symm⟩

theorem giveResponse_eq_none {s : State} : giveResponse s = none ↔ s.rspReady.take = none := by
  unfold giveResponse
  split <;> next h => simp [h]

/-- Where no command may be taken, a device byte given by hand moves the device only. -/
theorem handByte_device (t : Byte) (s : State) :
    (handByte t s).dev.capKbit = s.dev.capKbit
      ∧ (s.dev.bad = true → (handByte t s).dev.bad = true)
      ∧ (Memory.wf s.dev.mem = true → Memory.wf (handByte t s).dev.mem = true) := by
  simp only [handByte_dev]
  exact ⟨Device.byte_capKbit _ _, fun h => Device.byte_bad_of_bad h t, fun h => Device.byte_wf h t⟩

/-! ### What CHECK decides (R190) -/

/-- A word that is not legal is answered before anything else. -/
theorem verdict_of_not_legal {s : State} (c : Cmd) (h : legal s.cur = false) :
    verdict c s = .respond .errIllegal := by
  simp [verdict, h]

/-- A read or write command with every condition met starts the bus transaction. -/
theorem verdict_of_admitted {s : State} {a : Access} (h1 : legal s.cur = true) (h2 : s.cfgInit = true)
    (h3 : 0 < byteCount a s.cur)
    (h4 : s.rangeCheck = true → inRange a s.cur s.cfgCapKbit.toNat = true) :
    verdict (.access a) s = .transact a := by
  unfold verdict
  rw [if_neg (by simp [h1])]
  simp only [h2, if_neg (by simp : ¬ (true = false))]
  rw [if_neg (by omega), if_neg]
  rintro ⟨hr, hi⟩
  rw [h4 hr] at hi
  exact absurd hi (by simp)

end Sys2Proof.Machine
end

