-- ==== Sys2Proof/Laws/PerInstr.lean ====
section
/-! SUPPORT. One family of statements about every instruction as syntax, a lemma for each constructor: the code of a
well-formed instruction lies on its own side of LEGAL (R75, R76), and a device instruction byte names its own row (R80). -/

namespace Sys2Proof.Laws.LegalCode

open Sys2Proof

/-- A well-formed command's word is legal unless the command is reserved_illegal, and then it is not; a device
instruction's byte decodes to it. -/
def Statement (i : Instr) : Prop :=
  wellFormed i = true →
    match encode i with
    | .cmd80 cw => legal cw = false ↔ i = .reservedIllegal cw
    | .devIns b => decodeDev b = some i

theorem wr8 (addr : Addr) (wdata : Data) : Statement (.wr8 addr wdata) := by
  intro _; simp [encode, legal]

theorem rd8 (addr : Addr) (wdata : Data) : Statement (.rd8 addr wdata) := by
  intro _; simp [encode, legal]

theorem wr16 (addr : Addr) (wdata : Data) : Statement (.wr16 addr wdata) := by
  intro _; simp [encode, legal]

theorem rd16 (addr : Addr) (wdata : Data) : Statement (.rd16 addr wdata) := by
  intro _; simp [encode, legal]

theorem wr32 (addr : Addr) (wdata : Data) : Statement (.wr32 addr wdata) := by
  intro _; simp [encode, legal]

theorem rd32 (addr : Addr) (wdata : Data) : Statement (.rd32 addr wdata) := by
  intro _; simp [encode, legal]

theorem wrblk8 (addr : Addr) (count : Count) (wdata : Data) : Statement (.wrblk8 addr count wdata) := by
  intro _; simp [encode, legal]

theorem rdblk8 (addr : Addr) (count : Count) (wdata : Data) : Statement (.rdblk8 addr count wdata) := by
  intro _; simp [encode, legal]

theorem wrblk16 (addr : Addr) (count : Count) (wdata : Data) : Statement (.wrblk16 addr count wdata) := by
  intro _; simp [encode, legal]

theorem rdblk16 (addr : Addr) (count : Count) (wdata : Data) : Statement (.rdblk16 addr count wdata) := by
  intro _; simp [encode, legal]

theorem wrblk32 (addr : Addr) (count : Count) (wdata : Data) : Statement (.wrblk32 addr count wdata) := by
  intro _; simp [encode, legal]

theorem rdblk32 (addr : Addr) (count : Count) (wdata : Data) : Statement (.rdblk32 addr count wdata) := by
  intro _; simp [encode, legal]

theorem wrpage (addr : Addr) (wdata : Data) : Statement (.wrpage addr wdata) := by
  intro _; simp [encode, legal]

theorem rdpage (addr : Addr) (wdata : Data) : Statement (.rdpage addr wdata) := by
  intro _; simp [encode, legal]

theorem init (capKbit : Addr) (hold : Bool) : Statement (.init capKbit hold) := by
  intro h
  simp only [wellFormed, Bool.and_eq_true, decide_eq_true_eq] at h
  cases hold <;> simp [encode, legal, h.1, h.2]

theorem reservedIllegal (cw : CmdWord) : Statement (.reservedIllegal cw) := by
  intro h
  simp only [wellFormed, Bool.not_eq_true'] at h
  simp [encode, h]

theorem devWrmr : Statement .devWrmr := by
  intro _; simp [encode, decodeDev, Config.insWrmr]

theorem devWrite : Statement .devWrite := by
  intro _; simp [encode, decodeDev, Config.insWrmr, Config.insWrite]

theorem devRead : Statement .devRead := by
  intro _; simp [encode, decodeDev, Config.insWrmr, Config.insWrite, Config.insRead]

theorem devRdmr : Statement .devRdmr := by
  intro _; simp [encode, decodeDev, Config.insWrmr, Config.insWrite, Config.insRead, Config.insRdmr]

end Sys2Proof.Laws.LegalCode
end

