-- ==== Sys2Proof/Laws/Ports.lean ====
section
/-! SUPPORT. The data outputs in the phases in which R35 and R39 state their values. -/

namespace Sys2Proof.Machine

open Sys2Proof

/-- R39: rd_data in DATA_ST. -/
theorem rdData_of_dataSt {s : State} {a : Access} (h : s.ph = .dataSt) (ha : s.flight = some a) :
    rdData s = lowBytes s.acc (elemBytes a) := by
  simp [rdData, rdValid, h, ha]

/-- R35: rsp_status in RSP. -/
theorem rspStatus_of_rsp {s : State} (h : s.ph = .rsp) : rspStatus s = statusCode s.rspSt := by
  simp [rspStatus, rspValid, h]

/-- R35: rsp_rdata in RSP. -/
theorem rspRdata_of_rsp {s : State} (h : s.ph = .rsp) : rspRdata s = s.rspRd := by
  simp [rspRdata, rspValid, h]

end Sys2Proof.Machine
end

