-- ==== Sys2Proof/Laws/Sequencer.lean ====
section
/-! SUPPORT. What one move of the phase FSM can be, the run of a command, and every command as a run of its own word
and shape (R119, R120). -/

namespace Sys2Proof.Machine

open Sys2Proof

/-! ### One move -/

/-- A handshake that moved on had completed. -/
theorem Move.ofHandshake_go {o : Option State} {t : State} (h : Move.ofHandshake o = .go t) : o = some t := by
  cases o with
  | none => exact absurd h (by simp [Move.ofHandshake])
  | some u => simpa [Move.ofHandshake] using h

/-- A handshake that holds has not completed. -/
theorem Move.ofHandshake_hold {o : Option State} (h : Move.ofHandshake o = .hold) : o = none := by
  cases o with
  | none => rfl
  | some u => exact absurd h (by simp [Move.ofHandshake])

/-- The rows of R120: every way the FSM can move on. -/
theorem advance_cases {c : Cmd} {s t : State} (h : advance c s = .go t) :
    (s.ph = .check ∧ t = rowCheck c s)
      ∨ (s.ph = .rsp ∧ giveResponse s = some t)
      ∨ ∃ a, c = .access a
        ∧ ((s.ph = .sel ∧ t = (csAssert s).goto .mrcmp)
          ∨ (s.ph = .mrcmp ∧ t = rowMrcmp a s)
          ∨ (s.ph = .mrOpc ∧ ∃ u, sendByte Config.insWrmr s = some u ∧ t = u.goto .mrVal)
          ∨ (s.ph = .mrVal ∧ rowMrVal s = some t)
          ∨ (s.ph = .mrDesel ∧ t = (csDeassert s).goto .mrResel)
          ∨ (s.ph = .mrResel ∧ t = rowMrResel a s)
          ∨ (s.ph = .dirb ∧ rowDirb a s = some t)
          ∨ (s.ph = .addr ∧ s.ai ≠ 3 ∧ rowAddr a s = some t)
          ∨ (s.ph = .dataLd ∧ a.read = false ∧ rowDataLd a s = some t)
          ∨ (s.ph = .dataX ∧ countersInRange a s = true ∧ a.read = false ∧ rowDataXWrite a s = some t)
          ∨ (s.ph = .dataX ∧ countersInRange a s = true ∧ a.read = true ∧ rowDataXRead a s = some t)
          ∨ (s.ph = .dataSt ∧ a.read = true ∧ a.kind ≠ .scalar ∧ countersInRange a s = true
              ∧ rowDataSt a s = some t)
          ∨ (s.ph = .fin ∧ t = rowFin s)) := by
  unfold advance at h
  cases hp : s.ph <;> rw [hp] at h
  case idle => exact absurd h (by simp)
  case check => exact .inl ⟨rfl, (Move.go.inj h).symm⟩
  case rsp => exact .inr (.inl ⟨rfl, Move.ofHandshake_go h⟩)
  case reserved => exact absurd h (by simp)
  all_goals
    obtain ⟨a, rfl⟩ : ∃ a, c = .access a := by
      cases c <;> first | exact ⟨_, rfl⟩ | exact absurd h (by simp)
    refine .inr (.inr ⟨a, rfl, ?_⟩)
    simp only [reduceCtorEq, false_and, false_or, or_false, true_and]
  case sel => exact (Move.go.inj h).symm
  case mrcmp => exact (Move.go.inj h).symm
  case mrOpc =>
    obtain ⟨u, hu, e⟩ := Option.map_eq_some_iff.1 (Move.ofHandshake_go h)
    exact ⟨u, hu, e.symm⟩
  case mrVal => exact Move.ofHandshake_go h
  case mrDesel => exact (Move.go.inj h).symm
  case mrResel => exact (Move.go.inj h).symm
  case dirb => exact Move.ofHandshake_go h
  case addr =>
    dsimp only at h
    split at h
    · exact absurd h (by simp)
    · next ha => exact ⟨ha, Move.ofHandshake_go h⟩
  case dataLd =>
    dsimp only at h
    split at h
    · exact absurd h (by simp)
    · next ha => exact ⟨by simpa using ha, Move.ofHandshake_go h⟩
  case dataX =>
    dsimp only at h
    split at h
    · next hc =>
      have h' := Move.ofHandshake_go h
      split at h'
      · next hr => exact .inr ⟨hc, hr, h'⟩
      · next hr => exact .inl ⟨hc, by simpa using hr, h'⟩
    · exact absurd h (by simp)
  case dataSt =>
    dsimp only at h
    split at h
    · next hc => exact ⟨hc.1, hc.2.1, hc.2.2, Move.ofHandshake_go h⟩
    · exact absurd h (by simp)
  case fin => exact (Move.go.inj h).symm

/-- One move of the machine: the reset that is due, a row of the FSM, or a wait. -/
theorem tick_cases {c : Cmd} {s t : State} (h : tick c s = .next t) :
    (s.resetIn = some 0 ∧ t = coreReset s)
      ∨ (s.resetIn ≠ some 0 ∧ ∃ u, advance c s = .go u ∧ t = u.passTime)
      ∨ (s.resetIn ≠ some 0 ∧ advance c s = .hold ∧ t = s.passTime) := by
  unfold tick at h
  split at h
  · next hr => exact .inl ⟨hr, by simpa using h.symm⟩
  · next hr =>
    split at h
    · next u hu => exact .inr (.inl ⟨hr, u, hu, by simpa using h.symm⟩)
    · next hu => exact .inr (.inr ⟨hr, hu, by simpa using h.symm⟩)
    · exact absurd h (by simp)

/-- A move never refuses. -/
theorem tick_ne_refused (c : Cmd) (s : State) (r : Refusal) : tick c s ≠ .refused r := by
  unfold tick
  split
  · simp
  · split <;> simp

/-! ### The run of a command -/

theorem run_zero (c : Cmd) (s : State) : run 0 c s = .next s := rfl

theorem run_halted {n : Nat} {c : Cmd} {s : State} (h : halted c s = true) : run n c s = .next s := by
  cases n with
  | zero => rfl
  | succ n => simp [run, h]

theorem run_tick {n : Nat} {c : Cmd} {s t : State} (h : halted c s = false) (ht : tick c s = .next t) :
    run (n + 1) c s = run n c t := by
  simp [run, h, ht]

/-- A run's induction, once for all: what every move keeps, a run keeps. -/
theorem run_keeps {P : State → Prop} {c : Cmd} (step : ∀ s t, P s → tick c s = .next t → P t) :
    ∀ {n : Nat} {s t : State}, P s → run n c s = .next t → P t
  | 0, s, t, hs, h => by
    simp only [run, Host.Outcome.next.injEq] at h
    exact h ▸ hs
  | n + 1, s, t, hs, h => by
    unfold run at h
    split at h
    · simp only [Host.Outcome.next.injEq] at h
      exact h ▸ hs
    · split at h
      · next u hu => exact run_keeps step (step s u hs hu) h
      · exact absurd h (by simp)
      · exact absurd h (by simp)

/-- A relation of a state to its start that every move extends holds from the start of a run to its end. -/
theorem run_relates {R : State → State → Prop} {c : Cmd} (refl : ∀ s, R s s)
    (step : ∀ s t u, R s t → tick c t = .next u → R s u) {n : Nat} {s t : State} (h : run n c s = .next t) :
    R s t :=
  run_keeps (P := R s) (step s) (refl s) h

/-! ### The instructions -/

/-- Every command is EXECUTE on its own word and shape (R119). -/
theorem exec_command {i : Instr} {cw : CmdWord} (h : commandWord i = some cw) (s : State) :
    exec i s = execute cw (cmdOf i) s := by
  cases i <;> simp only [commandWord, encode, Option.some.injEq, reduceCtorEq] at h <;> subst h <;> rfl

/-- A device instruction byte is one transfer of the reference device (R80). -/
theorem exec_device {i : Instr} {b : Byte} (h : encode i = .devIns b) (s : State) :
    exec i s = .next (handByte b s) := by
  cases i <;> simp only [encode, Code.devIns.injEq, reduceCtorEq] at h <;> subst h <;> rfl

/-- On an idle CORE a command is accepted and run. -/
theorem execute_idle {cw : CmdWord} {c : Cmd} {s : State} (h : s.ph = .idle) :
    execute cw c s = run (moveBound s) c (accept cw s) := by
  simp [execute, h]

/-- On a CORE with this command in flight the run goes on. -/
theorem execute_resume {cw : CmdWord} {c : Cmd} {s : State} (h : s.ph ≠ .idle) (hc : s.cur = cw) :
    execute cw c s = run (moveBound s) c s := by
  simp [execute, h, hc]

end Sys2Proof.Machine
end

