-- ==== Sys2Proof/Tests/Slice0.lean ====
section
/-! SUPPORT. The model's own tests: what WellFormed refuses, the spec's words decoded, one step of each instruction
against the vectors of spec/95_test_vectors.md (V, T, P below), and for every obligation with hypotheses a witness
that meets them. -/

namespace Sys2Proof.Tests

open Sys2Proof Sys2Proof.Machine Sys2Proof.Safety

/- One theorem at a time: a kernel evaluation waits for the checks before it, and a hundred waiting threads are more
memory than the check allows. -/
set_option Elab.async false

/-! ### States to test on -/

/-- After INIT of a 256 Kbit device: the configuration of 95_test_vectors.md. -/
def ready : State := { State.reset with cfgInit := true, cfgCapKbit := 256 }

/-- The same with the mode cache and DMODE at m, and DMEM as given. -/
def hit (m : Byte) (mem : Memory := []) : State :=
  { ready with mcV := true, mcVal := m, dev := { ready.dev with dmode := .written m, mem := mem } }

/-- The same with a BUS that answers these bytes. -/
def answering (rx : List Byte) (s : State := ready) : State := { s with bus := .oracle rx }

/-- The same with these elements on the write-data stream. -/
def offering (es : List Data) (s : State := ready) : State := { s with wdIn := es }

/-- Does the outcome have a next state with this property? -/
def ends (o : Host.Outcome State Fault Refusal) (p : State → Bool) : Bool :=
  match o with
  | .next s => p s
  | .fault _ => false
  | .refused _ => false

/-! ### WellFormed -/

/-- INIT of no capacity, and of more than 131072 Kbit, is no instruction (R75, V-D11, V-D13); nor is reserved_illegal
of a legal word. -/
theorem test_wellFormed_refuses :
    wellFormed (.init 0 false) = false ∧ wellFormed (.init 131073 true) = false
      ∧ wellFormed (.reservedIllegal 0x00000000000000001001) = false := by decide

/-- The boundary capacities, and a reserved word, are. -/
theorem test_wellFormed_accepts :
    wellFormed (.init 1 false) = true ∧ wellFormed (.init 131072 true) = true
      ∧ wellFormed (.reservedIllegal 0x00000000000000000006) = true := by decide

/-! ### Decoding: each word written out from R70 and R74, WDATA COUNT ADDR OP -/

theorem test_decode_wr8 : decodeCmd 0x000000AB000000001000 = .wr8 0x000010 0x000000AB := by decide
theorem test_decode_rd8 : decodeCmd 0x0000000000000ABCDE01 = .rd8 0x0ABCDE 0 := by decide
theorem test_decode_wr16 : decodeCmd 0x0000BEEF000001FFFE02 = .wr16 0x01FFFE 0x0000BEEF := by decide
theorem test_decode_rd16 : decodeCmd 0x00000000000001FFFE03 = .rd16 0x01FFFE 0 := by decide
theorem test_decode_wr32 : decodeCmd 0xFFFFFFFF000001234504 = .wr32 0x012345 0xFFFFFFFF := by decide
theorem test_decode_rd32 : decodeCmd 0x00000000000001234505 = .rd32 0x012345 0 := by decide
theorem test_decode_wrblk8 : decodeCmd 0x00000000000500000008 = .wrblk8 0 5 0 := by decide
theorem test_decode_rdblk8 : decodeCmd 0x12345678FFFF00000009 = .rdblk8 0 0xFFFF 0x12345678 := by decide
theorem test_decode_wrblk16 : decodeCmd 0x0000000000020000400A = .wrblk16 0x000040 2 0 := by decide
theorem test_decode_rdblk16 : decodeCmd 0x0000000040010000000B = .rdblk16 0 16385 0 := by decide
theorem test_decode_wrblk32 : decodeCmd 0x0000000000020001000C = .wrblk32 0x000100 2 0 := by decide
theorem test_decode_rdblk32 : decodeCmd 0x00000000FFFF0000000D = .rdblk32 0 65535 0 := by decide
theorem test_decode_wrpage : decodeCmd 0x00000000000000001C10 = .wrpage 0x00001C 0 := by decide
theorem test_decode_rdpage : decodeCmd 0x000000000000007FFF11 = .rdpage 0x007FFF 0 := by decide
theorem test_decode_init : decodeCmd 0x00000001000000010018 = .init 256 true := by decide
theorem test_decode_init_largest : decodeCmd 0x00000000000002000018 = .init 131072 false := by decide

/-- The words of V-D1 to V-D8, V-D11 and V-D13 to V-D15. -/
theorem test_decode_reserved :
    [0x00000000000000000006, 0x0000000000000000000E, 0x00000000000000000012, 0x00000000000000000019,
      0x00000000000000000020, 0x000000000000000000FF, 0x00000000000100001001, 0x00000000000100000011,
      0x00000000000000000018, 0x00000000000002000118, 0x00000002000000010018,
      0x00000000000100010018].all (fun cw : CmdWord => decodeCmd cw = .reservedIllegal cw) = true := by
  decide

/-- R80, and bytes it does not list. -/
theorem test_decode_device :
    decodeDev 0x01 = some .devWrmr ∧ decodeDev 0x02 = some .devWrite ∧ decodeDev 0x03 = some .devRead
      ∧ decodeDev 0x05 = some .devRdmr ∧ decodeDev 0x00 = none ∧ decodeDev 0x04 = none
      ∧ decode (.devIns 0x06) = .error (.unknownDeviceByte 0x06) := by decide

/-- The host's two entry points, on a command row and a device row of the opcode table. -/
theorem test_table_words :
    decodeTableWord 80 0x11 = some (.rdpage 0 0) ∧ decodeTableWord 8 0x05 = some .devRdmr
      ∧ decodeTableWord 80 0x06 = some (.reservedIllegal 0x06) := by decide

theorem test_fetch_command :
    step (State.reset.withFetchWord 80 0x00000000000000001C10) = exec (.wrpage 0x1C 0) State.reset := by rfl

theorem test_fetch_device_byte :
    ends (step (State.reset.withFetchWord 8 0x03)) (fun t => t.dev.frame == .addr true 2 0 && t.wire == []) = true := by
  decide

/-! ### Scalar commands -/

/-- V20. -/
theorem test_wr8 :
    ends (exec (.wr8 0x10 0xAB) ready) (fun t =>
      t.trace == [.accept 0x000000AB000000001000, .sel, .xfer 0x01, .xfer 0x00, .desel, .sel, .xfer 0x02,
        .xfer 0x00, .xfer 0x10, .xfer 0xAB, .desel, .rsp .ok 0]
      && t.dev.mem == [(0x10, 0xAB)] && t.mcV && t.mcVal == 0x00) = true := by decide +kernel

/-- V26: bit 8 of WDATA is ignored. -/
theorem test_wr8_ignores_bit_8 :
    ends (exec (.wr8 0 0x1FF) (hit 0x00)) (fun t => t.dev.mem == [(0, 0xFF)]) = true := by decide +kernel

/-- V21. -/
theorem test_rd8 :
    ends (exec (.rd8 0x10 0) (hit 0x00 [(0x10, 0xAB)])) (fun t =>
      t.trace == [.accept 0x00000000000000001001, .sel, .xfer 0x03, .xfer 0x00, .xfer 0x10,
        .xferKeep 0x00 0xAB, .desel, .rsp .ok 0xAB]) = true := by decide +kernel

/-- V55. -/
theorem test_rd8_before_init :
    ends (exec (.rd8 0x10 0) State.reset) (fun t =>
      t.trace == [.accept 0x00000000000000001001, .rsp .errNotInit 0]) = true := by decide +kernel

/-- V22: an odd address. -/
theorem test_wr16 :
    ends (exec (.wr16 0x21 0xBEEF) (hit 0x00)) (fun t =>
      t.dev.mem == [(0x21, 0xEF), (0x22, 0xBE)] && t.dev.dmode == .written 0x40) = true := by decide +kernel

/-- V67: without direction bytes no 0x02 is sent, and the reference device marks BAD. -/
theorem test_wr16_without_direction_byte :
    ends (exec (.wr16 0x20 0xBEEF) { ready with dirOpcodeMulti := false }) (fun t =>
      t.trace == [.accept 0x0000BEEF000000002002, .sel, .xfer 0x01, .xfer 0x40, .desel, .sel, .xfer 0x00,
        .xfer 0x20, .xfer 0xEF, .xfer 0xBE, .desel, .rsp .ok 0]
      && t.dev.bad) = true := by decide +kernel

/-- V23. -/
theorem test_rd16 :
    ends (exec (.rd16 0x21 0) (hit 0x40 [(0x21, 0xEF), (0x22, 0xBE)])) (fun t => t.rspRd == 0x0000BEEF) = true := by
  decide +kernel

/-- V59. -/
theorem test_rd16_out_of_range :
    ends (exec (.rd16 0x7FFF 0) ready) (fun t =>
      t.trace == [.accept 0x000000000000007FFF03, .rsp .errRange 0]) = true := by decide +kernel

/-- V24: the last word in range. -/
theorem test_wr32 :
    ends (exec (.wr32 0x7FFC 0x12345678) (hit 0x40)) (fun t =>
      t.dev.mem == [(0x7FFC, 0x78), (0x7FFD, 0x56), (0x7FFE, 0x34), (0x7FFF, 0x12)] && t.rspSt == .ok) = true := by
  decide +kernel

/-- P2, its third command: three address bytes. -/
theorem test_rd32 :
    ends (exec (.rd32 0x012345 0)
      { hit 0x40 with cfgCapKbit := 1024, cfgAddr3 := true, bus := .oracle [0, 0, 0, 0, 0x11, 0x22, 0x33, 0x44] })
      (fun t =>
        t.trace == [.accept 0x00000000000001234505, .sel, .xfer 0x03, .xfer 0x01, .xfer 0x23, .xfer 0x45,
          .xferKeep 0x00 0x11, .xferKeep 0x00 0x22, .xferKeep 0x00 0x33, .xferKeep 0x00 0x44, .desel,
          .rsp .ok 0x44332211]) = true := by decide +kernel

/-- V27. -/
theorem test_rd32_out_of_range :
    ends (exec (.rd32 0x7FFD 0) (hit 0x80)) (fun t =>
      t.rspSt == .errRange && t.rspRd == 0 && t.mcVal == 0x80) = true := by decide +kernel

/-! ### Block and page commands -/

/-- T3, its write. -/
theorem test_wrblk8 :
    ends (exec (.wrblk8 0 5 0) (offering [1, 2, 3, 4, 5, 6])) (fun t =>
      t.dev.mem == [(0, 1), (1, 2), (2, 3), (3, 4), (4, 5)] && t.wdIn == [6] && t.mcVal == 0x40) = true := by
  decide +kernel

/-- V36: no element is taken. -/
theorem test_wrblk8_out_of_range :
    ends (exec (.wrblk8 0x7FFC 5 0) (offering [1, 2, 3, 4, 5])) (fun t =>
      t.rspSt == .errRange && t.wdIn.length == 5 && t.dev.mem == []) = true := by decide +kernel

/-- V13 and T3: a block of one element asks for SEQUENTIAL; the element follows its byte. -/
theorem test_rdblk8 :
    ends (exec (.rdblk8 0 1 0) (hit 0x40 [(0, 7)])) (fun t =>
      t.trace == [.accept 0x00000000000100000009, .sel, .xfer 0x03, .xfer 0x00, .xfer 0x00, .xferKeep 0x00 0x07,
        .rd 7, .desel, .rsp .ok 0]) = true := by decide +kernel

/-- V39: a block of none is a no-op wherever it starts. -/
theorem test_rdblk8_of_none :
    ends (exec (.rdblk8 0xFFFFFF 0 0) ready) (fun t =>
      t.trace == [.accept 0x000000000000FFFFFF09, .rsp .ok 0]) = true := by decide +kernel

/-- V30. -/
theorem test_wrblk16 :
    ends (exec (.wrblk16 0x40 2 0) (offering [0x1122, 0x3344])) (fun t =>
      t.trace == [.accept 0x0000000000020000400A, .sel, .xfer 0x01, .xfer 0x40, .desel, .sel, .xfer 0x02,
        .xfer 0x00, .xfer 0x40, .wd 0x1122, .xfer 0x22, .xfer 0x11, .wd 0x3344, .xfer 0x44, .xfer 0x33,
        .desel, .rsp .ok 0]) = true := by decide +kernel

/-- V31. -/
theorem test_rdblk16 :
    ends (exec (.rdblk16 0x40 2 0) (hit 0x40 [(0x40, 0x22), (0x41, 0x11), (0x42, 0x44), (0x43, 0x33)])) (fun t =>
      delivered t.trace == [0x1122, 0x3344]) = true := by decide +kernel

/-- V38. -/
theorem test_rdblk16_out_of_range :
    ends (exec (.rdblk16 0 16385 0) ready) (fun t => t.rspSt == .errRange && t.csAct == false) = true := by
  decide +kernel

/-- V32. -/
theorem test_wrblk32 :
    ends (exec (.wrblk32 0x100 2 0) (offering [0x3F800000, 0xDEADBEEF] (hit 0x40))) (fun t =>
      t.dev.mem.map Prod.snd == [0x00, 0x00, 0x80, 0x3F, 0xEF, 0xBE, 0xAD, 0xDE]) = true := by decide +kernel

/-- V33. -/
theorem test_rdblk32 :
    ends (exec (.rdblk32 0x100 1 0) (hit 0x40 [(0x100, 0), (0x101, 0), (0x102, 0x80), (0x103, 0x3F)])) (fun t =>
      delivered t.trace == [0x3F800000]) = true := by decide +kernel

/-- V40. -/
theorem test_rdblk32_out_of_range :
    ends (exec (.rdblk32 0 65535 0) ready) (fun t => t.rspSt == .errRange) = true := by decide +kernel

/-- V41: from 0x1C the page wraps after four bytes. -/
theorem test_wrpage :
    ends (exec (.wrpage 0x1C 0) (offering ((List.range 32).map (BitVec.ofNat 32)) (hit 0x80))) (fun t =>
      Memory.find t.dev.mem 0x1C == some 0 && Memory.find t.dev.mem 0x1F == some 3
        && Memory.find t.dev.mem 0x00 == some 4 && Memory.find t.dev.mem 0x1B == some 31
        && Memory.find t.dev.mem 0x20 == none) = true := by decide +kernel

/-- V44. -/
theorem test_wrpage_out_of_range :
    ends (exec (.wrpage 0x8000 0) ready) (fun t => t.rspSt == .errRange) = true := by decide +kernel

/-- V43: the start alone is checked, and the page wraps. -/
theorem test_rdpage :
    ends (exec (.rdpage 0x7FFF 0) (answering ((List.range 35).map (BitVec.ofNat 8)) (hit 0x80))) (fun t =>
      t.rspSt == .ok && (delivered t.trace).head? == some 3 && (delivered t.trace).length == 32) = true := by
  decide +kernel

theorem test_page_addresses :
    daddr .page 0x8000 0x7FFF 0 = some 0x7FFF ∧ daddr .page 0x8000 0x7FFF 1 = some 0x7FE0
      ∧ daddr .page 0x8000 0x7FFF 31 = some 0x7FFE := by decide

/-! ### Control commands -/

/-- V50, V51. -/
theorem test_init :
    ends (exec (.init 513 true) { hit 0x40 with cfgInit := false }) (fun t =>
      t.cfgInit && t.cfgCapKbit == 513 && t.cfgAddr3 && t.cfgHoldEn && t.mcV == false && t.mcVal == 0x00
        && t.trace == [.accept 0x00000001000000020118, .rsp .ok 0]) = true := by decide +kernel

/-- V51, the other side: 512 Kbit has two address bytes. -/
theorem test_init_at_the_threshold :
    ends (exec (.init 512 false) State.reset) (fun t => t.cfgInit && t.cfgAddr3 == false) = true := by
  decide +kernel

/-- V56: illegal comes before not initialised. -/
theorem test_reservedIllegal :
    ends (exec (.reservedIllegal 0x06) State.reset) (fun t =>
      t.trace == [.accept 0x06, .rsp .errIllegal 0] && t.cfgInit == false) = true := by decide +kernel

/-- V58: illegal comes before out of range. -/
theorem test_reservedIllegal_before_range :
    ends (step { ready with cmdIn := [0x000000000001007FFF03] }) (fun t => t.rspSt == .errIllegal) = true := by
  decide +kernel

/-! ### Device instruction bytes -/

/-- The reference device with an open frame. -/
def selected : State := { hit 0x40 [(5, 0x77)] with dev := { (hit 0x40 [(5, 0x77)]).dev with frame := .start } }

/-- R63. -/
theorem test_devWrmr :
    (shiftIn [0x01, 0x80] selected.dev).2.dmode = .written 0x80 ∧ (shiftIn [0x01, 0x80] selected.dev).2.bad = false := by
  decide +kernel

/-- R63, R66: a byte that is no mode is written to DMODE and marks the device BAD, and a later mode write still acts. -/
theorem test_mode_write_on_a_marked_device :
    (shiftIn [0x01, 0xC0] selected.dev).2.dmode = .written 0xC0 ∧ (shiftIn [0x01, 0xC0] selected.dev).2.bad = true
      ∧ (shiftIn [0x01, 0x40] (shiftIn [0x01, 0xC0] selected.dev).2.deselect.select).2.dmode = .written 0x40 := by
  decide +kernel

theorem test_devWrmr_step :
    ends (exec .devWrmr selected) (fun t => t.dev.frame == .modeVal && t.wireOut == [0x00]) = true := by decide +kernel

/-- R64. -/
theorem test_devWrite : (shiftIn [0x02, 0x00, 0x06, 0xAA, 0xBB] selected.dev).2.mem = [(5, 0x77), (6, 0xAA), (7, 0xBB)] := by
  decide +kernel

theorem test_devWrite_step :
    ends (exec .devWrite selected) (fun t => t.dev.frame == .addr false 2 0 && t.wireOut == [0x00]) = true := by
  decide +kernel

theorem test_devRead : (shiftIn [0x03, 0x00, 0x05, 0x00] selected.dev).1 = [0x00, 0x00, 0x00, 0x77] := by decide +kernel

theorem test_devRead_step :
    ends (exec .devRead selected) (fun t => t.dev.frame == .addr true 2 0 && t.dev.mem == [(5, 0x77)]) = true := by
  decide +kernel

/-- R66. -/
theorem test_devRdmr : (shiftIn [0x05, 0x00] selected.dev).1 = [0x00, 0x40] := by decide +kernel

theorem test_devRdmr_step :
    ends (exec .devRdmr selected) (fun t => t.dev.frame == .rdmr && t.dev.bad == false) = true := by decide +kernel

/-! ### The HOST's side -/

/-- V61, V62, V63. -/
theorem test_signed_accessors :
    writeInt32 0 (-2) = .wr32 0 0xFFFFFFFE ∧ writeInt32 0 (-2147483648) = .wr32 0 0x80000000
      ∧ writeLong 4 2147483647 = .wr32 4 0x7FFFFFFF ∧ readInt32Value 0xFFFFFFFF = -1 := by decide

/-- The example of R173: write_int32(0x00, -1), then read_int32(0x00). -/
theorem test_typed_round_trip : typedRoundTrip 0 (.int32 (-1)) ready = some (.int32 (-1)) := by decide +kernel

/-- T1 and P3, as assembler lines. -/
theorem test_assemble :
    assemble (.writeScalar .one 0x10 0xAB) = 0x000000AB000000001000
      ∧ assemble (.init 256 false) = 0x00000000000000010018
      ∧ assemble (.writePage 0x1C []) = 0x00000000000000001C10 := by decide

/-- R178: 65536 bytes take two commands, and the second starts after the first. -/
theorem test_split :
    chunkCounts 0 = [0] ∧ chunkCounts 65535 = [65535] ∧ chunkCounts 65536 = [65535, 1]
      ∧ splitReadBlock 0x10 65536 = [.rdblk8 0x10 65535 0, .rdblk8 0x01000F 1 0]
      ∧ splitBlock [1, 2] 5 = [(.wrblk8 5 2 0, [1, 2])] := by decide

/-! ### Reset -/

/-- V70: the model records the RESET event itself (log 2); all state is as in R38. -/
theorem test_reset_idle :
    ends (step { ready with resetIn := some 0 }) (fun t => t.trace == [.reset] && t.cfgInit == false) = true := by
  decide +kernel

/-- V71: after WD(1) X(01) WD(2) X(02), the two bytes sent stay and the line is released. -/
theorem test_reset_cut :
    ends (step { offering [1, 2, 3, 4, 5] (hit 0x40) with cmdIn := [0x00000000000500000008], resetIn := some 11 })
      (fun t =>
        t.trace == [.accept 0x00000000000500000008, .sel, .xfer 0x02, .xfer 0x00, .xfer 0x00, .wd 1, .xfer 0x01,
          .wd 2, .xfer 0x02, .reset, .desel]
        && Memory.find t.dev.mem 0 == some 1 && Memory.find t.dev.mem 1 == some 2 && t.mcV == false) = true := by
  decide +kernel

/-! ### Witnesses: for each obligation with hypotheses, values that meet them, clause by clause -/

/-- What `ends` says. -/
theorem ends_next {o : Host.Outcome State Fault Refusal} {p : State → Bool} (h : ends o p = true) :
    ∃ t, o = .next t ∧ p t = true := by
  cases o with
  | next t => exact ⟨t, rfl, h⟩
  | fault f => exact absurd h (by simp [ends])
  | refused r => exact absurd h (by simp [ends])

theorem willing_ready : Willing ready := ⟨rfl, rfl, rfl, rfl, rfl⟩

/-- The same for a 1024 Kbit device, with three address bytes. -/
def ready3 : State := { ready with cfgCapKbit := 1024, cfgAddr3 := true, dev := Device.powerUp 1024 }

/-- RD16 0x0021 with the direction byte to be sent next. -/
def atDirb : State :=
  { hit 0x40 with
    ph := .dirb, csAct := true, cur := 0x00000000000000002103, m := 0x40, ai := 1
    dev := { (hit 0x40).dev with frame := .start }
    trace := [.accept 0x00000000000000002103, .sel] }

/-- RDBLK8 0, #2 with the second byte to be received next. -/
def atDataX : State :=
  { hit 0x40 [(0, 1), (1, 2)] with
    ph := .dataX, csAct := true, cur := 0x00000000000200000009, m := 0x40, k := 1
    dev := { (hit 0x40 [(0, 1), (1, 2)]).dev with frame := .data true 0 1 }
    trace := [.accept 0x00000000000200000009, .sel, .xfer 3, .xfer 0, .xfer 0, .xferKeep 0 1, .rd 1] }

theorem inv_atDirb : Inv atDirb :=
  ⟨by decide, by decide, by decide, by decide, by decide, by decide⟩

theorem inv_atDataX : Inv atDataX :=
  ⟨by decide, by decide, by decide, by decide, by decide, by decide⟩

theorem witness_DecodeInvertsEncode :
    wellFormed (.init 1 true) = true ∧ wellFormed (.init 131072 false) = true
      ∧ wellFormed (.rdblk32 0xFFFFFF 0xFFFF 0xFFFFFFFF) = true
      ∧ wellFormed (.reservedIllegal 0x00000000000000000007) = true ∧ wellFormed .devRdmr = true := by decide

theorem witness_OpcodeMap :
    (1 ≤ (1 : Addr).toNat ∧ (1 : Addr).toNat ≤ 131072) ∧ (1 ≤ (131072 : Addr).toNat ∧ (131072 : Addr).toNat ≤ 131072)
      ∧ [0x06, 0x07, 0x0E, 0x0F, 0x12, 0x17, 0x19, 0xFF].all reservedOp = true
      ∧ [0x05, 0x08, 0x0D, 0x10, 0x11, 0x18].any reservedOp = false := by decide

theorem witness_OpcodeIsKindWidthDirection :
    accessOf (.rdblk16 1 2 3) = some ⟨.block, .two, true⟩ ∧ (commandWord (.rdblk16 1 2 3)).isSome = true
      ∧ accessOf (.wrpage 1 2) = some ⟨.page, .one, false⟩ ∧ (commandWord (.wrpage 1 2)).isSome = true := by decide

theorem witness_AssembledLines : 1 ≤ (131072 : Addr).toNat ∧ (131072 : Addr).toNat ≤ 131072 := by decide

theorem witness_IgnoredFields :
    ((cwOp 0x00000000000100000005).toNat ≤ 0x05 ∧ cwCount 0x00000000000100000005 ≠ 0)
      ∧ (cwOp 0x00000000FFFF00000011 = 0x11 ∧ cwCount 0x00000000FFFF00000011 ≠ 0)
      ∧ (cwOp 0x80000000000000010018 = 0x18 ∧ (cwWdata 0x80000000000000010018).extractLsb' 1 31 ≠ 0)
      ∧ ready.ph = .idle
      ∧ (0x000001FF : Data).extractLsb' 0 8 = (0xFFFFFFFF : Data).extractLsb' 0 8
      ∧ (0x0001BEEF : Data).extractLsb' 0 16 = (0x0000BEEF : Data).extractLsb' 0 16 := by decide

theorem witness_ReservedCommandAnswersIllegal :
    legal 0x00000000000100001001 = false ∧ ready.ph = .idle ∧ ready.resetIn = none ∧ ready.rspReady = .always := by
  decide

theorem witness_InitLatchesTheConfiguration :
    (State.reset.ph = .idle ∧ State.reset.csAct = false ∧ State.reset.resetIn = none
        ∧ State.reset.rspReady = .always)
      ∧ (1 ≤ (1 : Addr).toNat ∧ (131072 : Addr).toNat ≤ 131072)
      ∧ (cwOp 0x00000000000000000018 = 0x18 ∧ (cwAddr 0x00000000000000000018).toNat = 0)
      ∧ (cwOp 0x00000000000002000118 = 0x18 ∧ 131072 < (cwAddr 0x00000000000002000118).toNat)
      ∧ (cwOp 0x00000000000100010018 = 0x18 ∧ cwCount 0x00000000000100010018 ≠ 0)
      ∧ (cwOp 0x00000002000000010018 = 0x18 ∧ (cwWdata 0x00000002000000010018).extractLsb' 1 31 ≠ 0) := by decide

theorem witness_CommandsBeforeInitAreRefused :
    (State.reset.cfgInit = false ∧ State.reset.ph = .idle ∧ State.reset.resetIn = none
        ∧ State.reset.rspReady = .always)
      ∧ ((accessOf (.rdblk8 0 0 0)).isSome = true ∧ (commandWord (.rdblk8 0 0 0)).isSome = true)
      ∧ ∃ t, exec (.init 1 false) State.reset = .next t :=
  ⟨by decide, by decide, by
    obtain ⟨t, h, -⟩ := ends_next (o := exec (.init 1 false) State.reset) (p := fun _ => true) (by decide +kernel)
    exact ⟨t, h⟩⟩

theorem witness_ZeroCountBlockIsANoOp :
    accessOf (.wrblk32 0xFFFFFF 0 0) = some ⟨.block, .four, false⟩
      ∧ commandWord (.wrblk32 0xFFFFFF 0 0) = some 0x000000000000FFFFFF0C ∧ cwCount 0x000000000000FFFFFF0C = 0
      ∧ ready.cfgInit = true ∧ ready.ph = .idle ∧ ready.resetIn = none ∧ ready.rspReady = .always := by decide

/-- One byte past the top for a scalar, and the top itself for a page; the last ones in range are not. -/
theorem witness_OutOfRangeCommandsAreRefused :
    (accessOf (.rd16 0x7FFF 0)).isSome = true ∧ commandWord (.rd16 0x7FFF 0) = some 0x000000000000007FFF03
      ∧ ready.cfgInit = true ∧ ready.ph = .idle ∧ ready.resetIn = none ∧ ready.rspReady = .always
      ∧ 0 < byteCount ⟨.scalar, .two, true⟩ 0x000000000000007FFF03 ∧ ready.rangeCheck = true
      ∧ ready.cfgCapKbit.toNat * 128 < (cwAddr 0x000000000000007FFF03).toNat + 2
      ∧ ¬ ready.cfgCapKbit.toNat * 128 < (cwAddr 0x000000000000007FFE03).toNat + 2
      ∧ ready.cfgCapKbit.toNat * 128 ≤ (cwAddr 0x00000000000000800011).toNat
      ∧ ¬ ready.cfgCapKbit.toNat * 128 ≤ (cwAddr 0x000000000000007FFF11).toNat := by decide

theorem witness_CheckTestsInFixedOrder : ({ ready with ph := .check, cur := 0x01 } : State).ph = .check := rfl

/-- A miss (two bytes of mode write, then direction and address) and a hit. -/
theorem witness_ScalarReadsReturnTheReceivedBytes :
    accessOf (.rd32 0 0) = some ⟨.scalar, .four, true⟩ ∧ commandWord (.rd32 0 0) = some 0x05
      ∧ Willing (answering ([9, 9, 9, 9, 9] ++ [1, 2, 3, 4] ++ []))
      ∧ Admitted ⟨.scalar, .four, true⟩ 0x05 (answering ([9, 9, 9, 9, 9] ++ [1, 2, 3, 4] ++ []))
      ∧ [9, 9, 9, 9, 9].length = openingTransfers ⟨.scalar, .four, true⟩ ready
      ∧ [9, 9, 9].length = openingTransfers ⟨.scalar, .four, true⟩ (hit 0x40)
      ∧ [1, 2, 3, 4].length = elemBytes ⟨.scalar, .four, true⟩ :=
  ⟨by decide, by decide, ⟨rfl, rfl, rfl, rfl, rfl⟩, ⟨rfl, by decide, by decide⟩, by decide, by decide, by decide⟩

theorem witness_ScalarWritesSendTheirBytes :
    accessOf (.wr16 0x7FFE 0xBEEF) = some ⟨.scalar, .two, false⟩
      ∧ commandWord (.wr16 0x7FFE 0xBEEF) = some 0x0000BEEF0000007FFE02
      ∧ Willing (answering ([0, 0, 0, 0, 0, 0, 0] ++ [5]))
      ∧ Admitted ⟨.scalar, .two, false⟩ 0x0000BEEF0000007FFE02 (answering ([0, 0, 0, 0, 0, 0, 0] ++ [5]))
      ∧ [0, 0, 0, 0, 0, 0, 0].length =
        openingTransfers ⟨.scalar, .two, false⟩ ready + elemBytes ⟨.scalar, .two, false⟩ :=
  ⟨by decide, by decide, ⟨rfl, rfl, rfl, rfl, rfl⟩, ⟨rfl, by decide, by decide⟩, by decide⟩

/-- A block of two on a three-byte device, and a page. -/
theorem witness_BlockAndPageReadsDeliverTheirElements :
    accessOf (.rdblk16 0 2 0) = some ⟨.block, .two, true⟩ ∧ commandWord (.rdblk16 0 2 0) = some 0x0000000000020000000B
      ∧ Willing (answering ([0, 0, 0, 0, 0, 0] ++ [1, 2, 3, 4] ++ [7]) ready3)
      ∧ Admitted ⟨.block, .two, true⟩ 0x0000000000020000000B
        (answering ([0, 0, 0, 0, 0, 0] ++ [1, 2, 3, 4] ++ [7]) ready3)
      ∧ [0, 0, 0, 0, 0, 0].length = openingTransfers ⟨.block, .two, true⟩ ready3
      ∧ [1, 2, 3, 4].length = byteCount ⟨.block, .two, true⟩ 0x0000000000020000000B
      ∧ accessOf (.rdpage 0x7FFF 0) = some ⟨.page, .one, true⟩
      ∧ Admitted ⟨.page, .one, true⟩ 0x000000000000007FFF11 ready
      ∧ 32 = byteCount ⟨.page, .one, true⟩ 0x000000000000007FFF11 :=
  ⟨by decide, by decide, ⟨rfl, rfl, rfl, rfl, rfl⟩, ⟨rfl, by decide, by decide⟩, by decide, by decide, by decide,
    ⟨rfl, by decide, by decide⟩, by decide⟩

theorem witness_BlockAndPageWritesSendTheirElements :
    accessOf (.wrblk16 0 2 0) = some ⟨.block, .two, false⟩
      ∧ commandWord (.wrblk16 0 2 0) = some 0x0000000000020000000A
      ∧ Willing (offering ([1, 2] ++ [3]) (answering ([0, 0, 0, 0, 0, 0, 0, 0, 0] ++ [])))
      ∧ Admitted ⟨.block, .two, false⟩ 0x0000000000020000000A
        (offering ([1, 2] ++ [3]) (answering ([0, 0, 0, 0, 0, 0, 0, 0, 0] ++ [])))
      ∧ [0, 0, 0, 0, 0, 0, 0, 0, 0].length =
        openingTransfers ⟨.block, .two, false⟩ ready + byteCount ⟨.block, .two, false⟩ 0x0000000000020000000A
      ∧ [1, 2].length = elemCount ⟨.block, .two, false⟩ 0x0000000000020000000A :=
  ⟨by decide, by decide, ⟨rfl, rfl, rfl, rfl, rfl⟩, ⟨rfl, by decide, by decide⟩, by decide, by decide⟩

/-- The device after INIT, and with a valid cache; a command of each kind. -/
theorem witness_ReadsReturnWhatTheDeviceHolds :
    accessOf (.rdpage 0x1C 0) = some ⟨.page, .one, true⟩ ∧ commandWord (.rdpage 0x1C 0) = some 0x00000000000000001C11
      ∧ Willing (hit 0x40) ∧ Admitted ⟨.page, .one, true⟩ 0x00000000000000001C11 (hit 0x40)
      ∧ WellAttached ⟨.page, .one, true⟩ (hit 0x40) ∧ WellAttached ⟨.scalar, .one, true⟩ ready :=
  ⟨by decide, by decide, ⟨rfl, rfl, rfl, rfl, rfl⟩, ⟨rfl, by decide, by decide⟩,
    ⟨rfl, rfl, by decide, by decide, by decide, by decide⟩, ⟨rfl, rfl, by decide, by decide, by decide, by decide⟩⟩

/-- A scalar, and a block; the third conclusion's premise holds, and fails only for a wrapping block. -/
theorem witness_WritesStoreTheirBytesAndNoOther :
    (accessOf (.wr32 0x7FFC 5) = some ⟨.scalar, .four, false⟩
        ∧ commandWord (.wr32 0x7FFC 5) = some 0x000000050000007FFC04
        ∧ [(5 : Data)].length = elemCount ⟨.scalar, .four, false⟩ 0 ∧ [(5 : Data)] = [cwWdata 0x000000050000007FFC04])
      ∧ Willing (offering ([1, 2] ++ [3]))
      ∧ Admitted ⟨.block, .one, false⟩ 0x00000000000200000008 (offering ([1, 2] ++ [3]))
      ∧ WellAttached ⟨.block, .one, false⟩ (offering ([1, 2] ++ [3]))
      ∧ accessOf (.wrblk8 0 2 0) = some ⟨.block, .one, false⟩
      ∧ commandWord (.wrblk8 0 2 0) = some 0x00000000000200000008
      ∧ [1, 2].length = elemCount ⟨.block, .one, false⟩ 0x00000000000200000008
      ∧ byteCount ⟨.block, .one, false⟩ 0x00000000000200000008 ≤ ready.dev.capBytes
      ∧ byteAddress ⟨.block, .one, false⟩ 0x00000000000200000008 ready 1 = some 1 :=
  ⟨by decide, ⟨rfl, rfl, rfl, rfl, rfl⟩, ⟨rfl, by decide, by decide⟩,
    ⟨rfl, rfl, by decide, by decide, by decide, by decide⟩, by decide, by decide, by decide, by decide, by decide⟩

/-- No direction byte, and a configured width that is not the device's. -/
theorem witness_MisframedCommandsMarkTheDeviceBad :
    accessOf (.wr16 0 0) = some ⟨.scalar, .two, false⟩ ∧ commandWord (.wr16 0 0) = some 0x02
      ∧ Willing { ready with dirOpcodeMulti := false }
      ∧ Admitted ⟨.scalar, .two, false⟩ 0x02 { ready with dirOpcodeMulti := false } ∧ ready.bus = .device
      ∧ usesDir ⟨.scalar, .two, false⟩ false = false
      ∧ addrBytes ready3.cfgAddr3 ≠ (Device.powerUp 256).addrBytes
      ∧ elemCount ⟨.block, .one, false⟩ 0x00000000000200000008 ≤ (offering [1, 2]).wdIn.length :=
  ⟨by decide, by decide, ⟨rfl, rfl, rfl, rfl, rfl⟩, ⟨rfl, by decide, by decide⟩, rfl, by decide, by decide, by decide⟩

theorem witness_WriteThenReadReturnsTheValue :
    accessOf (.wrblk8 0 2 0) = some ⟨.block, .one, false⟩ ∧ commandWord (.wrblk8 0 2 0) = some 0x00000000000200000008
      ∧ accessOf (.rdblk8 0 2 9) = some ⟨.block, .one, true⟩
      ∧ commandWord (.rdblk8 0 2 9) = some 0x00000009000200000009
      ∧ cwAddr 0x00000009000200000009 = cwAddr 0x00000000000200000008
      ∧ cwCount 0x00000009000200000009 = cwCount 0x00000000000200000008
      ∧ Willing (offering ([1, 2] ++ [3])) ∧ WellAttached ⟨.block, .one, false⟩ (offering ([1, 2] ++ [3]))
      ∧ Admitted ⟨.block, .one, false⟩ 0x00000000000200000008 (offering ([1, 2] ++ [3]))
      ∧ byteCount ⟨.block, .one, false⟩ 0x00000000000200000008 ≤ ready.dev.capBytes
      ∧ [1, 2].length = elemCount ⟨.block, .one, false⟩ 0x00000000000200000008
      ∧ [(5 : Data)] = [cwWdata 0x000000050000007FFC04] :=
  ⟨by decide, by decide, by decide, by decide, by decide, by decide, ⟨rfl, rfl, rfl, rfl, rfl⟩,
    ⟨rfl, rfl, by decide, by decide, by decide, by decide⟩, ⟨rfl, by decide, by decide⟩, by decide, by decide,
    by decide⟩

/-- The last word of the device. -/
theorem witness_MixedWidthsAgreeByteByByte :
    Willing ready ∧ ready.cfgInit = true ∧ WellAttached ⟨.scalar, .four, false⟩ ready
      ∧ (0x7FFC : Addr).toNat + 4 ≤ ready.cfgCapKbit.toNat * 128
      ∧ ready.cfgCapKbit.toNat ≤ ready.dev.capKbit ∧ (0x7FFC : Addr).toNat + 4 ≤ 256 ^ addrBytes ready.cfgAddr3
      ∧ 3 < 4 :=
  ⟨willing_ready, rfl, ⟨rfl, rfl, by decide, by decide, by decide, by decide⟩, by decide, by decide, by decide,
    by decide⟩

theorem witness_PhaseFsmRealisesExecute :
    wellFormed (.rd8 0x10 0) = true ∧ commandWord (.rd8 0x10 0) = some 0x00000000000000001001
      ∧ ready.ph = .idle ∧ ready.csAct = false ∧ ready.resetIn = none
      ∧ ∃ u, procedure (cmdOf (.rd8 0x10 0)) (accept 0x00000000000000001001 ready) = some u :=
  ⟨by decide, by decide, rfl, rfl, rfl, Option.isSome_iff_exists.1 (by decide +kernel)⟩

/-- A BUS that acknowledges one byte only. -/
theorem witness_PhaseFsmWaitsWhereExecuteWaits :
    wellFormed (.rd8 0x10 0) = true ∧ commandWord (.rd8 0x10 0) = some 0x00000000000000001001
      ∧ (answering [0]).ph = .idle ∧ (answering [0]).csAct = false ∧ (answering [0]).resetIn = none
      ∧ procedure (cmdOf (.rd8 0x10 0)) (accept 0x00000000000000001001 (answering [0])) = none :=
  ⟨by decide, by decide, rfl, rfl, rfl, by decide +kernel⟩

theorem tick_atDirb : ∃ t, tick (cmdOf (decodeCmd atDirb.cur)) atDirb = .next t ∧ t.trace = atDirb.trace ++ [.xfer 3] := by
  obtain ⟨t, h, p⟩ := ends_next (o := tick (cmdOf (decodeCmd atDirb.cur)) atDirb)
    (p := fun t => t.trace == atDirb.trace ++ [.xfer 3]) (by decide +kernel)
  exact ⟨t, h, by simpa using p⟩

theorem tick_atDataX :
    ∃ t, tick (cmdOf (decodeCmd atDataX.cur)) atDataX = .next t ∧ t.trace = atDataX.trace ++ [.xferKeep 0 2] := by
  obtain ⟨t, h, p⟩ := ends_next (o := tick (cmdOf (decodeCmd atDataX.cur)) atDataX)
    (p := fun t => t.trace == atDataX.trace ++ [.xferKeep 0 2]) (by decide +kernel)
  exact ⟨t, h, by simpa using p⟩

/-- A move with an event, and a wait. -/
theorem witness_AMovePerformsAtMostOneEvent :
    Inv atDirb ∧ atDirb.resetIn ≠ some 0 ∧ atDirb.ph ≠ .idle
      ∧ (∃ t, tick (cmdOf (decodeCmd atDirb.cur)) atDirb = .next t)
      ∧ advance (.access ⟨.scalar, .two, true⟩) (answering [] atDirb) = .hold :=
  ⟨inv_atDirb, by decide, by decide, by obtain ⟨t, h, -⟩ := tick_atDirb; exact ⟨t, h⟩, by decide +kernel⟩

theorem witness_CommandsEndOrWaitForAnAgent :
    Inv atDataX ∧ atDataX.wire = [] ∧ ∃ t, step atDataX = .next t :=
  ⟨inv_atDataX, rfl, by
    obtain ⟨t, h, -⟩ := ends_next (o := step atDataX) (p := fun _ => true) (by decide +kernel)
    exact ⟨t, h⟩⟩

/-- A byte sent, and a byte received. -/
theorem witness_TransfersCarryTheOfferedByte :
    (Inv atDirb ∧ atDirb.resetIn ≠ some 0
        ∧ ∃ t, tick (cmdOf (decodeCmd atDirb.cur)) atDirb = .next t ∧ t.trace = atDirb.trace ++ [.xfer 3])
      ∧ Inv atDataX ∧ atDataX.resetIn ≠ some 0
      ∧ ∃ t, tick (cmdOf (decodeCmd atDataX.cur)) atDataX = .next t ∧ t.trace = atDataX.trace ++ [.xferKeep 0 2] :=
  ⟨⟨inv_atDirb, by decide, tick_atDirb⟩, inv_atDataX, by decide, tick_atDataX⟩

theorem witness_OnlyTheModeByteAndInitWriteTheCache :
    atDirb.resetIn ≠ some 0 ∧ ∃ t, tick (cmdOf (decodeCmd atDirb.cur)) atDirb = .next t :=
  ⟨by decide, by obtain ⟨t, h, -⟩ := tick_atDirb; exact ⟨t, h⟩⟩

theorem witness_StepRunsTheDecodedInstruction :
    (({ ready with cmdIn := [0x05, 0x06] } : State).wire = [] ∧ ready.resetIn ≠ some 0 ∧ ready.ph = .idle
        ∧ ({ ready with cmdIn := [0x05, 0x06] } : State).cmdIn = 0x05 :: [0x06])
      ∧ (atDirb.wire = [] ∧ atDirb.resetIn ≠ some 0 ∧ atDirb.ph ≠ .idle)
      ∧ (({ selected with wire := [0x05, 0x00] } : State).wire = 0x05 :: [0x00] ∧ selected.dev.frame = .start
        ∧ decodeDev 0x05 = some .devRdmr)
      ∧ ({ atDirb with resetIn := some 0 } : State).resetIn = some 0
      ∧ (ready.wire = [] ∧ ready.resetIn = none ∧ ready.ph = .idle ∧ ready.cmdIn = []) := by decide

theorem next_of_ends {o : Host.Outcome State Fault Refusal} (h : ends o (fun _ => true) = true) : ∃ t, o = .next t :=
  let ⟨t, ht, _⟩ := ends_next h
  ⟨t, ht⟩

/-- A busy CORE, and an idle one. -/
theorem witness_CommandsAreTakenOnlyWhenIdle :
    (atDirb.ph ≠ .idle ∧ ∃ t, exec (.rd8 0 0) atDirb = .next t)
      ∧ ready.ph = .idle ∧ commandWord (.rd8 0 0) = some 0x01 ∧ ∃ t, exec (.rd8 0 0) ready = .next t :=
  ⟨⟨by decide, next_of_ends (by decide +kernel)⟩, rfl, by decide, next_of_ends (by decide +kernel)⟩

theorem witness_NoStepWritesTheStaticParameters :
    ∃ t, step { ready with cmdIn := [0x01], dirOpcodeMulti := false } = .next t := next_of_ends (by decide +kernel)

theorem witness_OnlyInitWritesTheConfiguration :
    (∀ c h, Instr.rd8 0 0 ≠ .init c h) ∧ ready.resetIn = none ∧ ∃ t, exec (.rd8 0 0) ready = .next t :=
  ⟨by simp, rfl, next_of_ends (by decide +kernel)⟩

theorem witness_TheTraceOnlyGrows : ∃ t, step { atDirb with resetIn := some 0 } = .next t :=
  next_of_ends (by decide +kernel)

theorem witness_TheBadMarkIsNeverCleared :
    ({ ready with cmdIn := [0x00], dev := ready.dev.fail } : State).dev.bad = true ∧ ready.resetIn = none
      ∧ ∃ t, step { ready with cmdIn := [0x00], dev := ready.dev.fail } = .next t :=
  ⟨rfl, rfl, next_of_ends (by decide +kernel)⟩

/-- A command that passes CHECK and one that does not. -/
theorem witness_BusCostOfEachCommand :
    (commandWord (.rd16 0x7FFE 0) = some 0x000000000000007FFE03 ∧ wellFormed (.rd16 0x7FFE 0) = true ∧ Willing ready
        ∧ (∃ t, exec (.rd16 0x7FFE 0) ready = .next t ∧ t.ph = .idle)
        ∧ Admitted ⟨.scalar, .two, true⟩ 0x000000000000007FFE03 ready)
      ∧ (∃ t, exec (.rd16 0x7FFF 0) ready = .next t ∧ t.ph = .idle)
      ∧ ∀ a, accessOf (.rd16 0x7FFF 0) = some a → ¬ Admitted a 0x000000000000007FFF03 ready := by
  refine ⟨⟨by decide, by decide, willing_ready, ?_, ⟨rfl, by decide, by decide⟩⟩, ?_, ?_⟩
  · obtain ⟨t, h, p⟩ := ends_next (o := exec (.rd16 0x7FFE 0) ready) (p := fun t => t.ph == .idle) (by decide +kernel)
    exact ⟨t, h, by simpa using p⟩
  · obtain ⟨t, h, p⟩ := ends_next (o := exec (.rd16 0x7FFF 0) ready) (p := fun t => t.ph == .idle) (by decide +kernel)
    exact ⟨t, h, by simpa using p⟩
  · intro a ha h
    simp only [accessOf, Option.some.injEq] at ha
    subst ha
    exact absurd (h.range rfl) (by decide)

theorem witness_ResetComesInAnyPhase :
    ({ atDirb with resetIn := some 0 } : State).wire = [] ∧ ({ atDirb with resetIn := some 0 } : State).resetIn = some 0
      ∧ atDirb.rspReady = .always ∧ (accessOf (.rd8 0 0)).isSome = true ∧ (commandWord (.rd8 0 0)).isSome = true := by
  decide

/-- A write cut after one of its two bytes, with an address it does not reach; and a read. -/
theorem witness_ResetCutLosesOnlyTheBytesFromTheCutOn :
    (({ atDataX with cur := 0x00000000000200000008 } : State).flight = some ⟨.block, .one, false⟩
        ∧ bytesSent ⟨.block, .one, false⟩ { atDataX with cur := 0x00000000000200000008 } = some 1
        ∧ ∀ j, 1 ≤ j → j < byteCount ⟨.block, .one, false⟩ 0x00000000000200000008 →
          byteAddress ⟨.block, .one, false⟩ 0x00000000000200000008
            { atDataX with cur := 0x00000000000200000008 } j ≠ some 0)
      ∧ (coreReset { atDataX with cur := 0x00000000000200000008 }).dev.bad = false
      ∧ atDataX.flight = some ⟨.block, .one, true⟩ ∧ (coreReset atDataX).dev.bad = false
      ∧ ¬ (bytePending atDataX.ph = true ∧ (atDataX.dev.frame = .start ∨ atDataX.dev.frame = .modeVal)) := by
  refine ⟨⟨by decide, by decide, ?_⟩, by decide +kernel, by decide, by decide +kernel, by decide⟩
  intro j h1 h2
  have : j = 1 := by
    have : byteCount ⟨.block, .one, false⟩ 0x00000000000200000008 = 2 := by decide
    omega
  subst this
  decide

theorem witness_StepKeepsTheInvariant : Inv atDataX ∧ ∃ t, step atDataX = .next t :=
  ⟨inv_atDataX, next_of_ends (by decide +kernel)⟩

theorem witness_ReservedPhaseFaults :
    ({ ready with ph := .reserved } : State).ph = .reserved ∧ ready.wire = [] ∧ ready.resetIn = none := by decide

theorem witness_StepKeepsTheCacheMirror :
    Inv atDirb ∧ CacheMirrorsDevice atDirb ∧ ∃ t, step atDirb = .next t :=
  ⟨inv_atDirb, ⟨rfl, by decide, by decide⟩, next_of_ends (by decide +kernel)⟩

theorem witness_StepKeepsTheFrameHeads : Inv atDirb ∧ HeadsInv atDirb ∧ ∃ t, step atDirb = .next t :=
  ⟨inv_atDirb, ⟨rfl, by decide, by decide, by decide⟩, next_of_ends (by decide +kernel)⟩

theorem witness_DeviceInstructionsOpenTheirFrame : selected.dev.bad = false ∧ selected.dev.frame = .start := by decide

/-- A mode byte, one with HOLD, and one that is none; and a marked device at the start of a frame. -/
theorem witness_ModeWriteFrameWritesDmode :
    selected.dev.bad = false ∧ selected.dev.frame = .start ∧ selected.dev.fail.frame = .start ∧ (0x81 : Byte) &&& 0xFE = 0x80
      ∧ ¬ ((0xC0 : Byte) &&& 0xFE = 0x00 ∨ (0xC0 : Byte) &&& 0xFE = 0x40 ∨ (0xC0 : Byte) &&& 0xFE = 0x80) := by decide

theorem witness_DataFrameReadsAndWritesDmem :
    selected.dev.bad = false ∧ selected.dev.frame = .start ∧ selected.dev.dmode = .written 0x40
      ∧ modeOfByte 0x40 = some .sequential ∧ [(0 : Byte), 5].length = selected.dev.addrBytes ∧ 1 ≤ selected.dev.capKbit
      ∧ [(1 : Byte), 2].length ≤ selected.dev.capBytes
      ∧ daddr .sequential selected.dev.capBytes (bigEndian [0, 5]) 1 = some 6 := by decide

theorem witness_AddressSequenceOfEachMode : 0 < 2 ^ 24 ∧ 2 ^ 24 ≤ 2 ^ 24 ∧ 0 < 128 ∧ 1 ≤ 1 := by decide

theorem witness_PageTransfersStayInTheirPage : 1 ≤ 1 := by decide

theorem witness_WhatMarksTheDeviceBad :
    selected.dev.fail.bad = true ∧ { selected.dev.fail with mem := [(1, 2)], frame := .modeVal }.bad = true
      ∧ selected.dev.bad = false ∧ selected.dev.frame = .start ∧ decodeDev 0x04 = none
      ∧ ({ (hit 0x00).dev with frame := .data false 0 1 } : Device).frame = .data false 0 1
      ∧ modeOfByte (hit 0x00).dev.modeByte = some .byte
      ∧ ({ (hit 0x00).dev with frame := .addr true 1 0 } : Device).frame = .addr true 1 0
      ∧ ({ (hit 0x00).dev with frame := .rdmr } : Device).frame = .rdmr := by decide

/-- A word at the last address it has, and the least integer. -/
theorem witness_TypedRoundTrip :
    (TypedValue.int32 (-2147483648)).inType = true ∧ (TypedValue.u16 0xBEEF).type.width = .two
      ∧ Willing ready ∧ ready.cfgInit = true ∧ ready.dirOpcodeMulti = true
      ∧ WellAttached ⟨.scalar, .four, false⟩ ready ∧ WellAttached ⟨.scalar, .two, false⟩ ready
      ∧ (0x7FFE : Addr).toNat + widthBytes .two ≤ ready.dev.capBytes
      ∧ (0x7FFE : Addr).toNat + widthBytes .two ≤ ready.cfgCapKbit.toNat * 128
      ∧ (0x7FFC : Addr).toNat + widthBytes .four ≤ ready.dev.capBytes
      ∧ (0x7FFC : Addr).toNat + widthBytes .four ≤ ready.cfgCapKbit.toNat * 128 :=
  ⟨by decide, rfl, willing_ready, rfl, rfl, ⟨rfl, rfl, by decide, by decide, by decide, by decide⟩,
    ⟨rfl, rfl, by decide, by decide, by decide, by decide⟩, by decide, by decide, by decide, by decide⟩

theorem witness_TypedConversionsAreInverse :
    (-2 ^ 31 ≤ (-2147483648 : Int) ∧ (-2147483648 : Int) < 2 ^ 31)
      ∧ (-2 ^ 31 ≤ (2147483647 : Int) ∧ (2147483647 : Int) < 2 ^ 31) := by decide

theorem witness_ElementBytesAreLittleEndian : 4 ≤ 4 ∧ [(1 : Byte), 2, 3, 4].length ≤ 4 := by decide

end Sys2Proof.Tests
end

section
/-! What one move adds to the event trace (R10, R11), a property's way from the machine's single moves to a whole step,
and O35 from the two. -/

namespace Sys2Proof.Machine

open Sys2Proof

/-! ### The event of each row of the FSM (R120) -/

theorem sendByte_trace {t : Byte} {s s' : State} (h : sendByte t s = some s') :
    s'.trace = s.trace ++ [.xfer t] := by
  rw [sendByte_frame h]

theorem recvByte_trace {t r : Byte} {s s' : State} (h : recvByte t s = some (r, s')) :
    s'.trace = s.trace ++ [.xferKeep t r] := by
  rw [recvByte_frame h]

/-- R155: among CHECK's verdicts only DO_INIT can make an event, the end of an asserted chip-select. -/
theorem rowCheck_trace (c : Cmd) (s : State) :
    (rowCheck c s).trace = s.trace ++ (if verdict c s = .doInit ∧ s.csAct then [.desel] else []) := by
  unfold rowCheck
  split
  · next h => simp [h]
  · next h => simp [h]
  · next h => simp [h]

@[simp] theorem rowMrcmp_trace (a : Access) (s : State) : (rowMrcmp a s).trace = s.trace := by
  unfold rowMrcmp
  split
  · rfl
  · rfl

theorem rowMrVal_trace {s t : State} (h : rowMrVal s = some t) : t.trace = s.trace ++ [.xfer s.m] := by
  unfold rowMrVal at h
  split at h
  · cases h
  · next hu =>
    have htrace := sendByte_trace hu
    cases h; exact htrace

@[simp] theorem rowMrResel_trace (a : Access) (s : State) :
    (rowMrResel a s).trace = s.trace ++ (if s.csAct then [] else [.sel]) :=
  csAssert_trace s

theorem rowDirb_trace {a : Access} {s t : State} (h : rowDirb a s = some t) :
    t.trace = s.trace ++ [.xfer (dirByte a)] := by
  unfold rowDirb at h
  split at h
  · cases h
  · next hu => cases h; simpa using sendByte_trace hu

theorem rowAddr_trace {a : Access} {s t : State} (h : rowAddr a s = some t) :
    t.trace = s.trace ++ [.xfer (addrByte s.curAddr s.ai.toNat)] := by
  unfold rowAddr at h
  split at h
  · cases h
  · next hu =>
    have htrace := sendByte_trace hu
    rw [checkFrame_trace] at htrace
    split at h
    · cases h; exact htrace
    · cases h; exact htrace

/-- R117: a scalar write loads CUR_WDATA with no event, a block write takes an element. -/
theorem rowDataLd_trace {a : Access} {s t : State} (h : rowDataLd a s = some t) :
    t.trace = s.trace ∨ ∃ e, t.trace = s.trace ++ [.wd e] := by
  unfold rowDataLd at h
  split at h
  · cases h; exact .inl rfl
  · split at h
    · cases h
    · next e u hu =>
      obtain ⟨rest, -, rfl⟩ := takeElement_cases hu
      cases h
      exact .inr ⟨e, rfl⟩

theorem rowDataXWrite_trace {a : Access} {s t : State} (h : rowDataXWrite a s = some t) :
    t.trace = s.trace ++ [.xfer (byteOf s.ebuf s.i.toNat)] := by
  unfold rowDataXWrite at h
  split at h
  · cases h
  · next hu =>
    have htrace := sendByte_trace hu
    rw [checkFrame_trace] at htrace
    split at h
    · cases h; exact htrace
    · split at h
      · cases h; exact htrace
      · cases h; exact htrace

theorem rowDataXRead_trace {a : Access} {s t : State} (h : rowDataXRead a s = some t) :
    ∃ r, t.trace = s.trace ++ [.xferKeep Config.dummyTx r] := by
  unfold rowDataXRead at h
  split at h
  · cases h
  · next r u hu =>
    have htrace := recvByte_trace hu
    rw [checkFrame_trace] at htrace
    refine ⟨r, ?_⟩
    split at h
    · cases h; exact htrace
    · split at h
      · cases h; exact htrace
      · cases h; exact htrace

theorem rowDataSt_trace {a : Access} {s t : State} (h : rowDataSt a s = some t) :
    t.trace = s.trace ++ [.rd (lowBytes s.acc (elemBytes a))] := by
  unfold rowDataSt at h
  split at h
  · cases h
  · next u hu =>
    obtain ⟨r, -, rfl⟩ := giveElement_cases hu
    split at h
    · cases h; rfl
    · cases h; rfl

@[simp] theorem rowFin_trace (s : State) :
    (rowFin s).trace = s.trace ++ (if s.csAct then [.desel] else []) :=
  csDeassert_trace s

theorem giveResponse_trace {s t : State} (h : giveResponse s = some t) :
    t.trace = s.trace ++ [.rsp s.rspSt s.rspRd] := by
  obtain ⟨r, -, rfl⟩ := giveResponse_cases h
  rfl

/-! ### One row makes at most one event -/

theorem eq_or_append_of_ite {l l' : List Event} {p : Prop} [Decidable p] {e : Event}
    (h : l' = l ++ (if p then [e] else [])) : l' = l ∨ ∃ e, l' = l ++ [e] := by
  split at h
  · exact .inr ⟨e, h⟩
  · exact .inl (by simpa using h)

/-- CS_ASSERT makes its event only where the line changes (R100). -/
theorem csAssert_trace_eq_or_append (s : State) :
    (csAssert s).trace = s.trace ∨ ∃ e, (csAssert s).trace = s.trace ++ [e] :=
  eq_or_append_of_ite ((csAssert_trace s).trans (by rw [← ite_not]))

/-- CS_DEASSERT makes its event only where the line changes (R101). -/
theorem csDeassert_trace_eq_or_append (s : State) :
    (csDeassert s).trace = s.trace ∨ ∃ e, (csDeassert s).trace = s.trace ++ [e] :=
  eq_or_append_of_ite (csDeassert_trace s)

/-- R8, R120: one row of the FSM makes at most one event. -/
theorem advance_trace {c : Cmd} {s t : State} (h : advance c s = .go t) :
    t.trace = s.trace ∨ ∃ e, t.trace = s.trace ++ [e] := by
  obtain ⟨-, rfl⟩ | ⟨-, h⟩ | ⟨a, -, hrow⟩ := advance_cases h
  · exact eq_or_append_of_ite (rowCheck_trace c s)
  · exact .inr ⟨_, giveResponse_trace h⟩
  · -- The rows in R120's order: SEL, MRCMP, MR_OPC, MR_VAL, MR_DESEL, MR_RESEL, DIRB, ADDR, DATA_LD, DATA_X of a
    -- write and of a read, DATA_ST, FIN.
    obtain ⟨-, rfl⟩ | ⟨-, rfl⟩ | ⟨-, u, hu, rfl⟩ | ⟨-, h⟩ | ⟨-, rfl⟩ | ⟨-, rfl⟩ | ⟨-, h⟩ | ⟨-, -, h⟩ | ⟨-, -, h⟩
      | ⟨-, -, -, h⟩ | ⟨-, -, -, h⟩ | ⟨-, -, -, -, h⟩ | ⟨-, rfl⟩ := hrow
    · exact csAssert_trace_eq_or_append s
    · exact .inl (rowMrcmp_trace a s)
    · exact .inr ⟨_, (State.goto_trace u _).trans (sendByte_trace hu)⟩
    · exact .inr ⟨_, rowMrVal_trace h⟩
    · exact csDeassert_trace_eq_or_append s
    · exact csAssert_trace_eq_or_append s
    · exact .inr ⟨_, rowDirb_trace h⟩
    · exact .inr ⟨_, rowAddr_trace h⟩
    · exact (rowDataLd_trace h).imp_right fun ⟨e, he⟩ => ⟨.wd e, he⟩
    · exact .inr ⟨_, rowDataXWrite_trace h⟩
    · exact .inr ((rowDataXRead_trace h).imp' (.xferKeep Config.dummyTx) fun _ hr => hr)
    · exact .inr ⟨_, rowDataSt_trace h⟩
    · exact csDeassert_trace_eq_or_append s

end Sys2Proof.Machine
end

section
/-! What one step runs, and how a property goes from the machine's single moves to a whole step (R8, R119; log 1). -/

namespace Sys2Proof.Machine

open Sys2Proof

/-- The instruction of a step: a device byte given by hand at the start of a frame, the first command word offered to
an idle CORE, or the command in flight. -/
theorem nextInstr_cases {s u : State} {i : Instr} (h : nextInstr s = some (i, u)) :
    (∃ b rest, s.wire = b :: rest ∧ s.dev.frame = .start ∧ decodeDev b = some i ∧ u = { s with wire := rest })
      ∨ (s.wire = [] ∧ s.resetIn ≠ some 0 ∧ s.ph = .idle
          ∧ ∃ cw rest, s.cmdIn = cw :: rest ∧ i = decodeCmd cw ∧ u = { s with cmdIn := rest })
      ∨ (s.wire = [] ∧ s.resetIn ≠ some 0 ∧ s.ph ≠ .idle ∧ i = decodeCmd s.cur ∧ u = s) := by
  unfold nextInstr at h
  split at h
  · next b rest hw =>
    split at h
    · next hf =>
      split at h
      · next j hj => cases h; exact .inl ⟨b, rest, hw, hf, hj, rfl⟩
      · cases h
    · cases h
  · next hw =>
    split at h
    · cases h
    · next hr =>
      split at h
      · next hp =>
        split at h
        · cases h
        · next cw rest hq => cases h; exact .inr (.inl ⟨hw, hr, hp, cw, rest, hq, rfl, rfl⟩)
      · next hp => cases h; exact .inr (.inr ⟨hw, hr, hp, rfl, rfl⟩)

/-- A move with no instruction is a byte given by hand, the reset that is due, or a wait. -/
theorem quietMove_cases (s : State) :
    (∃ b rest, s.wire = b :: rest ∧ quietMove s = handByte b { s with wire := rest })
      ∨ (s.wire = [] ∧ s.resetIn = some 0 ∧ quietMove s = coreReset s)
      ∨ (s.wire = [] ∧ s.resetIn ≠ some 0 ∧ quietMove s = s.passTime) := by
  unfold quietMove
  split
  · next b rest hw => exact .inl ⟨b, rest, hw, rfl⟩
  · next hw =>
    split
    · next hr => exact .inr (.inl ⟨hw, hr, rfl⟩)
    · next hr => exact .inr (.inr ⟨hw, hr, rfl⟩)

/-- An instruction runs EXECUTE on its command word (R119), or is one transfer of the reference device (R80). -/
theorem exec_cases (i : Instr) (s : State) :
    (∃ cw, commandWord i = some cw ∧ exec i s = execute cw (cmdOf i) s)
      ∨ ∃ b, encode i = .devIns b ∧ exec i s = .next (handByte b s) := by
  cases h : encode i with
  | cmd80 cw =>
    have hcw : commandWord i = some cw := by simp [commandWord, h]
    exact .inl ⟨cw, hcw, exec_command hcw s⟩
  | devIns b => exact .inr ⟨b, rfl, exec_device h s⟩

/-- EXECUTE accepts and runs on an idle CORE, goes on with the command in flight, or takes nothing (R119, R122). -/
theorem execute_cases {cw : CmdWord} {c : Cmd} {s t : State} (h : execute cw c s = .next t) :
    (s.ph = .idle ∧ run (moveBound s) c (accept cw s) = .next t)
      ∨ (s.ph ≠ .idle ∧ s.cur = cw ∧ run (moveBound s) c s = .next t)
      ∨ (s.ph ≠ .idle ∧ s.cur ≠ cw ∧ t = s) := by
  unfold execute at h
  split at h
  · next hp => exact .inl ⟨hp, h⟩
  · next hp =>
    split at h
    · next hc => exact .inr (.inl ⟨hp, hc, h⟩)
    · next hc => exact .inr (.inr ⟨hp, hc, by simpa using h.symm⟩)

/-- What every single move of the machine keeps: a fetch, a byte given by hand, ACCEPT, a row of the FSM, a wait and a
reset (R8). -/
structure KeptByMoves (P : State → Prop) : Prop where
  fetchByte : ∀ s rest, P s → P { s with wire := rest }
  fetchWord : ∀ s rest, P s → P { s with cmdIn := rest }
  hand : ∀ b s, P s → P (handByte b s)
  accept : ∀ cw s, P s → P (accept cw s)
  advance : ∀ c s t, P s → advance c s = .go t → P t
  wait : ∀ s, P s → P s.passTime
  reset : ∀ s, P s → P (coreReset s)

namespace KeptByMoves

variable {P : State → Prop} {c : Cmd} {cw : CmdWord} {i : Instr} {n : Nat} {s t : State}

theorem of_tick (hP : KeptByMoves P) (hs : P s) (h : tick c s = .next t) : P t := by
  obtain ⟨-, rfl⟩ | ⟨-, u, hu, rfl⟩ | ⟨-, -, rfl⟩ := tick_cases h
  · exact hP.reset s hs
  · exact hP.wait u (hP.advance c s u hs hu)
  · exact hP.wait s hs

theorem of_run (hP : KeptByMoves P) (hs : P s) (h : run n c s = .next t) : P t :=
  run_keeps (fun _ _ hu hut => hP.of_tick hu hut) hs h

theorem of_execute (hP : KeptByMoves P) (hs : P s) (h : execute cw c s = .next t) : P t := by
  obtain ⟨-, h⟩ | ⟨-, -, h⟩ | ⟨-, -, rfl⟩ := execute_cases h
  · exact hP.of_run (hP.accept cw s hs) h
  · exact hP.of_run hs h
  · exact hs

theorem of_exec (hP : KeptByMoves P) (hs : P s) (h : exec i s = .next t) : P t := by
  obtain ⟨cw, -, he⟩ | ⟨b, -, he⟩ := exec_cases i s
  · exact hP.of_execute hs (he ▸ h)
  · cases he.symm.trans h
    exact hP.hand b s hs

theorem of_quietMove (hP : KeptByMoves P) (hs : P s) : P (quietMove s) := by
  obtain ⟨b, rest, -, h⟩ | ⟨-, -, h⟩ | ⟨-, -, h⟩ := quietMove_cases s
  · exact h ▸ hP.hand b _ (hP.fetchByte s rest hs)
  · exact h ▸ hP.reset s hs
  · exact h ▸ hP.wait s hs

theorem of_nextInstr {u : State} (hP : KeptByMoves P) (hs : P s) (h : nextInstr s = some (i, u)) : P u := by
  obtain ⟨-, rest, -, -, -, rfl⟩ | ⟨-, -, -, -, rest, -, -, rfl⟩ | ⟨-, -, -, -, rfl⟩ := nextInstr_cases h
  · exact hP.fetchByte s rest hs
  · exact hP.fetchWord s rest hs
  · exact hs

/-- What every single move keeps, a step keeps. -/
theorem of_step (hP : KeptByMoves P) (hs : P s) (h : step s = .next t) : P t := by
  unfold step at h
  split at h
  · next i u hu => exact hP.of_exec (hP.of_nextInstr hs hu) h
  · cases h
    exact hP.of_quietMove hs

end KeptByMoves

end Sys2Proof.Machine
end

section
/-! The statements of 00_scope.md: O35. -/

namespace Sys2Proof.Machine

open Sys2Proof

/-- What has been observed stays observed in every later move (R10). -/
theorem keptByMoves_prefix_trace (l : List Event) : KeptByMoves fun s => l <+: s.trace where
  fetchByte _ _ hs := hs
  fetchWord _ _ hs := hs
  hand _ _ hs := hs
  accept _ _ hs := hs.trans (List.prefix_append _ _)
  advance _ _ _ hs h := by
    obtain ht | ⟨e, ht⟩ := advance_trace h
    · exact ht ▸ hs
    · exact ht ▸ hs.trans (List.prefix_append _ _)
  wait _ hs := hs
  reset _ hs := hs.trans (List.prefix_append _ _)

/-- Settles O35: every single move keeps each prefix of the trace, so a step keeps the trace it starts with. -/
theorem theTraceOnlyGrows : Obligations.TheTraceOnlyGrows := by
  unfold Obligations.TheTraceOnlyGrows
  intro s t h
  exact (keptByMoves_prefix_trace s.trace).of_step List.prefix_rfl h

end Sys2Proof.Machine
end

section
/-! The encoder undoes the decoder on every command word (R28, R78), and what CHECK takes the decoded word for
(R119). -/

namespace Sys2Proof

/-- LEGAL as a proposition (R75). -/
theorem legal_iff {cw : CmdWord} :
    legal cw = true ↔
      (((cwOp cw).toNat ≤ 5 ∨ cwOp cw = 0x10 ∨ cwOp cw = 0x11) ∧ cwCount cw = 0)
        ∨ (8 ≤ (cwOp cw).toNat ∧ (cwOp cw).toNat ≤ 13)
        ∨ (cwOp cw = 0x18 ∧ cwCount cw = 0 ∧ (cwWdata cw).extractLsb' 1 31 = 0
            ∧ 1 ≤ (cwAddr cw).toNat ∧ (cwAddr cw).toNat ≤ Config.capMaxKbit) := by
  simp [legal, or_assoc, and_assoc]

/-- The OP values of the scalar and page commands (R74). -/
theorem scalar_or_page_op : ∀ op : Byte, op.toNat ≤ 5 ∨ op = 0x10 ∨ op = 0x11 →
    op = 0x00 ∨ op = 0x01 ∨ op = 0x02 ∨ op = 0x03 ∨ op = 0x04 ∨ op = 0x05 ∨ op = 0x10 ∨ op = 0x11 := by
  decide

/-- The OP values of the block commands (R74). -/
theorem block_op : ∀ op : Byte, 8 ≤ op.toNat ∧ op.toNat ≤ 13 →
    op = 0x08 ∨ op = 0x09 ∨ op = 0x0A ∨ op = 0x0B ∨ op = 0x0C ∨ op = 0x0D := by
  decide

/-- A word put together from its fields, its OP known. -/
theorem cmdWord_of_op {cw : CmdWord} {op : Byte} (hop : cwOp cw = op) :
    cmdWord (cwWdata cw) (cwCount cw) (cwAddr cw) op = cw :=
  hop ▸ cmdWord_fields cw

/-- A legal INIT's WDATA is its HOLD bit, every other bit being 0 (R75). -/
theorem wdata_of_hold {cw : CmdWord} (h : (cwWdata cw).extractLsb' 1 31 = 0) :
    (if cw.getLsbD 48 then 1 else 0 : Data) = cwWdata cw := by
  have hbit : cw.getLsbD 48 = (cwWdata cw).getLsbD 0 := by simp [cwWdata]
  rw [hbit]
  apply BitVec.eq_of_getLsbD_eq
  intro i hi
  cases i with
  | zero => cases (cwWdata cw).getLsbD 0 <;> rfl
  | succ j =>
    have hj : (cwWdata cw).getLsbD (j + 1) = false := by
      have hz := congrArg (·.getLsbD j) h
      simpa [(by omega : j < 31), Nat.add_comm] using hz
    rw [hj]
    cases (cwWdata cw).getLsbD 0 <;> simp [BitVec.getLsbD_one]

theorem encode_decodeCmd (cw : CmdWord) : encode (decodeCmd cw) = .cmd80 cw := by
  cases hl : legal cw with
  | false => rw [decodeCmd_of_not_legal hl]; rfl
  | true =>
    obtain ⟨ho, hcount⟩ | ho | ⟨hop, hcount, hw, -, -⟩ := legal_iff.1 hl
    · obtain hop | hop | hop | hop | hop | hop | hop | hop := scalar_or_page_op _ ho
      all_goals
        have hcw := cmdWord_of_op hop
        rw [hcount] at hcw
        simpa [decodeCmd, hl, hop, encode] using hcw
    · obtain hop | hop | hop | hop | hop | hop := block_op _ ho
      all_goals simpa [decodeCmd, hl, hop, encode] using cmdWord_of_op hop
    · have hcw := cmdWord_of_op hop
      rw [hcount, ← wdata_of_hold hw] at hcw
      simpa [decodeCmd, hl, hop, encode] using hcw

theorem commandWord_decodeCmd (cw : CmdWord) : commandWord (decodeCmd cw) = some cw := by
  simp [commandWord, encode_decodeCmd]

/-- A legal word that is INIT has a capacity INIT may latch (R23, R75). -/
theorem cap_of_init {cw : CmdWord} (hl : legal cw = true) {c : Addr} {h : Bool} (hi : decodeCmd cw = .init c h) :
    1 ≤ (cwAddr cw).toNat ∧ (cwAddr cw).toNat ≤ Config.capMaxKbit := by
  obtain ⟨ho, -⟩ | ho | ⟨-, -, -, hcap⟩ := legal_iff.1 hl
  · obtain hop | hop | hop | hop | hop | hop | hop | hop := scalar_or_page_op _ ho
    all_goals simp [decodeCmd, hl, hop] at hi
  · obtain hop | hop | hop | hop | hop | hop := block_op _ ho
    all_goals simp [decodeCmd, hl, hop] at hi
  · exact hcap

/-- A byte read as a device instruction is that instruction's byte (R80). -/
theorem encode_of_decodeDev {b : Byte} {i : Instr} (h : decodeDev b = some i) : encode i = .devIns b := by
  unfold decodeDev at h
  split_ifs at h
  all_goals
    cases h
    subst b
    rfl

namespace Machine

/-- CHECK takes exactly INIT for INIT (R119). -/
theorem cmdOf_eq_init {i : Instr} : cmdOf i = .init ↔ ∃ c h, i = .init c h := by
  cases i <;> simp [cmdOf, accessOf]

/-- CHECK takes an instruction for a read or write command exactly where it has a shape (R119). -/
theorem cmdOf_eq_access {i : Instr} {a : Access} : cmdOf i = .access a ↔ accessOf i = some a := by
  cases i <;> simp [cmdOf, accessOf]

end Machine

end Sys2Proof
end

section
/-! What one row of the FSM does (R120): each row's next state written out, and what no row writes. -/

namespace Sys2Proof.Machine

open Sys2Proof

/-! ### What the device keeps in every operation -/

/-- No operation changes the capacity of the reference device (R222), clears its BAD mark (R66) or leaves the canonical
form of DMEM (log 5). -/
structure Device.Evolves (d d' : Device) : Prop where
  capKbit : d'.capKbit = d.capKbit
  bad : d.bad = true → d'.bad = true
  wf : Memory.wf d.mem = true → Memory.wf d'.mem = true

namespace Device.Evolves

variable {d d' d'' : Device}

@[refl] theorem refl (d : Device) : d.Evolves d := ⟨rfl, id, id⟩

theorem trans (h : d.Evolves d') (h' : d'.Evolves d'') : d.Evolves d'' :=
  ⟨h'.capKbit.trans h.capKbit, h'.bad ∘ h.bad, h'.wf ∘ h.wf⟩

theorem unmarked (h : d.Evolves d') (hd : d'.bad = false) : d.bad = false :=
  Bool.eq_false_iff.2 fun hb => by simp [h.bad hb] at hd

theorem byte (d : Device) (tx : Byte) : d.Evolves (d.byte tx).2 :=
  ⟨d.byte_capKbit tx, fun h => d.byte_bad_of_bad h tx, fun h => d.byte_wf h tx⟩

theorem select (d : Device) : d.Evolves d.select := ⟨rfl, id, id⟩

theorem deselect (d : Device) : d.Evolves d.deselect :=
  ⟨d.deselect_capKbit, d.deselect_bad_of_bad, d.deselect_wf⟩

theorem fail (d : Device) : d.Evolves d.fail := ⟨d.fail_capKbit, fun _ => d.fail_bad, d.fail_wf⟩

theorem misframe (t : Byte) (d : Device) : d.Evolves (d.misframe t) :=
  have ⟨hbad, hcap, hwf⟩ := d.misframe_keeps t
  ⟨hcap, fun _ => hbad, hwf⟩

theorem cutDevice (s : State) (d : Device) : d.Evolves (cutDevice s d) :=
  have ⟨hcap, hbad, hwf⟩ := cutDevice_keeps s d
  ⟨hcap, hbad, hwf⟩

theorem onDevice (s : State) {f : Device → Device} (h : s.dev.Evolves (f s.dev)) :
    s.dev.Evolves (s.onDevice f).dev :=
  State.onDevice_dev (fun d => s.dev.Evolves d) (refl _) fun _ => h

theorem checkFrame (a : Access) (t : Byte) (s : State) : s.dev.Evolves (checkFrame a t s).dev :=
  checkFrame_dev (fun d => s.dev.Evolves d) (refl _) (fun _ => misframe t _) fun _ => fail _

theorem coreReset (s : State) : s.dev.Evolves (coreReset s).dev := onDevice s (cutDevice s s.dev)

end Device.Evolves

/-! ### The environment's part of a move -/

/-- BUS and device after a move: the same kind of BUS, and the device, where it is attached, as f leaves it. -/
structure Reached (f : Device → Device) (b : Bus) (d : Device) (b' : Bus) (d' : Device) : Prop where
  bus : b' = .device ↔ b = .device
  dev : b = .device → d' = f d
  evolves : d.Evolves d'

theorem bus_cases (b : Bus) : (∃ rx, b = .oracle rx) ∨ b = .device := by
  cases b with
  | oracle rx => exact .inl ⟨rx, rfl⟩
  | device => exact .inr rfl

theorem onDevice_frame (s : State) (f : Device → Device) : s.onDevice f = { s with dev := (s.onDevice f).dev } := by
  obtain ⟨rx, hb⟩ | hb := bus_cases s.bus
  · rw [State.onDevice_of_oracle hb]
  · rw [State.onDevice_of_device hb]

theorem onDevice_reached (s : State) {f : Device → Device} (h : s.dev.Evolves (f s.dev)) :
    Reached f s.bus s.dev s.bus (s.onDevice f).dev where
  bus := Iff.rfl
  dev hb := by rw [State.onDevice_of_device hb]
  evolves := .onDevice s h

/-- SEL: the line is asserted and the device's frame parser restarts (R62, R100). -/
theorem csAssert_reached {s : State} (h : s.csAct = false) :
    ∃ d, Reached Device.select s.bus s.dev s.bus d
      ∧ csAssert s = { s with csAct := true, dev := d, trace := s.trace ++ [.sel] } :=
  ⟨_, onDevice_reached { s with csAct := true } (.select _),
    (if_neg (by simp [h])).trans (congrArg (·.emit .sel) (onDevice_frame { s with csAct := true } _))⟩

/-- DESEL: the line is deasserted and the device's frame ends (R66, R101). -/
theorem csDeassert_reached {s : State} (h : s.csAct = true) :
    ∃ d, Reached Device.deselect s.bus s.dev s.bus d
      ∧ csDeassert s = { s with csAct := false, dev := d, trace := s.trace ++ [.desel] } :=
  ⟨_, onDevice_reached { s with csAct := false } (.deselect _),
    (if_pos h).trans (congrArg (·.emit .desel) (onDevice_frame { s with csAct := false } _))⟩

theorem csAssert_of_asserted {s : State} (h : s.csAct = true) : csAssert s = s := if_pos h

theorem csDeassert_of_deasserted {s : State} (h : s.csAct = false) : csDeassert s = s := if_neg (by simp [h])

/-- On a line that is deasserted DO_INIT makes no event (R155). -/
theorem doInit_of_deasserted {s : State} (h : s.csAct = false) :
    doInit s = { s with
      cfgCapKbit := s.curAddr
      cfgAddr3 := addr3Of s.curAddr.toNat
      cfgHoldEn := s.curWdata.getLsbD 0
      cfgInit := true
      mcV := false
      mcVal := 0x00 } :=
  csDeassert_of_deasserted h

theorem transfer_reached {t r : Byte} {s s' : State} (h : transfer t s = some (r, s')) :
    Reached (fun d => (d.byte t).2) s.bus s.dev s'.bus s'.dev := by
  obtain ⟨rest, hb, rfl⟩ | ⟨hb, -, rfl⟩ := transfer_cases h
  · exact ⟨by simp [hb], by simp [hb], .refl _⟩
  · exact ⟨by simp [hb], fun _ => rfl, .byte _ _⟩

/-- A state after one transfer: its event, and what the transfer leaves of BUS and device. -/
@[simp] def State.exchange (s : State) (e : Event) (b : Bus) (d : Device) : State :=
  { s with bus := b, dev := d, trace := s.trace ++ [e] }

theorem sendByte_reached {t : Byte} {s s' : State} (h : sendByte t s = some s') :
    ∃ b d, Reached (fun d => (d.byte t).2) s.bus s.dev b d ∧ s' = s.exchange (.xfer t) b d := by
  obtain ⟨r, u, hu, rfl⟩ := sendByte_cases h
  exact ⟨u.bus, u.dev, transfer_reached hu, sendByte_frame h⟩

theorem recvByte_reached {t r : Byte} {s s' : State} (h : recvByte t s = some (r, s')) :
    ∃ b d, Reached (fun d => (d.byte t).2) s.bus s.dev b d ∧ s' = s.exchange (.xferKeep t r) b d := by
  obtain ⟨u, hu, rfl⟩ := recvByte_cases h
  exact ⟨u.bus, u.dev, transfer_reached hu, recvByte_frame h⟩

/-- A byte of a data frame as the device takes it, checked first: a frame without a direction byte and one of another
address width mark it BAD (R67, R222). -/
def frameByte (dir addr3 : Bool) (t : Byte) (d : Device) : Device :=
  if dir = false then ((d.misframe t).byte t).2
  else if addrBytes addr3 ≠ d.addrBytes then (d.fail.byte t).2
  else (d.byte t).2

theorem checkFrame_frame (a : Access) (t : Byte) (s : State) :
    checkFrame a t s = { s with dev := (checkFrame a t s).dev } := by
  unfold checkFrame
  split_ifs
  · exact onDevice_frame s _
  · exact onDevice_frame s _
  · rfl

theorem checkFrame_dev_byte {a : Access} {t : Byte} {s : State} (h : s.bus = .device) :
    ((checkFrame a t s).dev.byte t).2 = frameByte (usesDir a s.dirOpcodeMulti) s.cfgAddr3 t s.dev := by
  unfold checkFrame frameByte
  split_ifs
  · rw [State.onDevice_of_device h]
  · rw [State.onDevice_of_device h]
  · rfl

/-- A checked transfer reaches the device as one byte of a data frame. -/
theorem Reached.of_checkFrame {a : Access} {t : Byte} {s : State} {b : Bus} {d : Device}
    (h : Reached (fun d => (d.byte t).2) (checkFrame a t s).bus (checkFrame a t s).dev b d) :
    Reached (frameByte (usesDir a s.dirOpcodeMulti) s.cfgAddr3 t) s.bus s.dev b d where
  bus := by simpa using h.bus
  dev hb := (h.dev (by simpa using hb)).trans (checkFrame_dev_byte hb)
  evolves := (Device.Evolves.checkFrame a t s).trans h.evolves

theorem sendByte_checkFrame {a : Access} {t : Byte} {s s' : State}
    (h : sendByte t (checkFrame a t s) = some s') :
    ∃ b d, Reached (frameByte (usesDir a s.dirOpcodeMulti) s.cfgAddr3 t) s.bus s.dev b d
      ∧ s' = s.exchange (.xfer t) b d := by
  obtain ⟨b, d, hr, rfl⟩ := sendByte_reached h
  exact ⟨b, d, hr.of_checkFrame, by rw [checkFrame_frame]; rfl⟩

theorem recvByte_checkFrame {a : Access} {t r : Byte} {s s' : State}
    (h : recvByte t (checkFrame a t s) = some (r, s')) :
    ∃ b d, Reached (frameByte (usesDir a s.dirOpcodeMulti) s.cfgAddr3 t) s.bus s.dev b d
      ∧ s' = s.exchange (.xferKeep t r) b d := by
  obtain ⟨b, d, hr, rfl⟩ := recvByte_reached h
  exact ⟨b, d, hr.of_checkFrame, by rw [checkFrame_frame]; rfl⟩

end Sys2Proof.Machine
end

section
/-! The next state of each row of the FSM, written out (R107 to R118, R120), and what no row writes. -/

namespace Sys2Proof.Machine

open Sys2Proof

/-! ### The rows that wait for an agent -/

section

variable {a : Access} {s t : State}

theorem rowMrVal_eq (h : rowMrVal s = some t) :
    ∃ b d, Reached (fun d => (d.byte s.m).2) s.bus s.dev b d
      ∧ t = { s.exchange (.xfer s.m) b d with mcV := true, mcVal := s.m, ph := .mrDesel } := by
  unfold rowMrVal at h
  split at h
  · cases h
  · next hu =>
    obtain ⟨b, d, hd, rfl⟩ := sendByte_reached hu
    cases h
    exact ⟨b, d, hd, rfl⟩

theorem rowDirb_eq (h : rowDirb a s = some t) :
    ∃ b d, Reached (frameByte (usesDir a s.dirOpcodeMulti) s.cfgAddr3 (dirByte a)) s.bus s.dev b d
      ∧ t = (s.exchange (.xfer (dirByte a)) b d).goto .addr := by
  unfold rowDirb at h
  split at h
  · cases h
  · next hu =>
    obtain ⟨b, d, hd, rfl⟩ := sendByte_checkFrame hu
    cases h
    exact ⟨b, d, hd, rfl⟩

theorem rowAddr_eq (h : rowAddr a s = some t) :
    ∃ b d, Reached (frameByte (usesDir a s.dirOpcodeMulti) s.cfgAddr3 (addrByte s.curAddr s.ai.toNat)) s.bus s.dev b d
      ∧ (s.ai = 0 ∧ t = { s.exchange (.xfer (addrByte s.curAddr s.ai.toNat)) b d with
            k := 0, i := 0, acc := 0, ph := if a.read then .dataX else .dataLd }
        ∨ s.ai ≠ 0 ∧ t = { s.exchange (.xfer (addrByte s.curAddr s.ai.toNat)) b d with ai := s.ai - 1 }) := by
  unfold rowAddr at h
  split at h
  · cases h
  · next hu =>
    obtain ⟨b, d, hd, rfl⟩ := sendByte_checkFrame hu
    refine ⟨b, d, hd, ?_⟩
    split at h
    · next hai => cases h; exact .inl ⟨hai, rfl⟩
    · next hai => cases h; exact .inr ⟨hai, rfl⟩

theorem rowDataLd_eq (h : rowDataLd a s = some t) :
    (a.kind = .scalar ∧ t = { s with ebuf := s.curWdata, ph := .dataX })
      ∨ a.kind ≠ .scalar ∧ ∃ e rest, s.wdIn = e :: rest
        ∧ t = { s with ebuf := e, wdIn := rest, ph := .dataX, trace := s.trace ++ [.wd e] } := by
  unfold rowDataLd at h
  split at h
  · next hk => cases h; exact .inl ⟨hk, rfl⟩
  · next hk =>
    split at h
    · cases h
    · next e u hu =>
      obtain ⟨rest, hw, rfl⟩ := takeElement_cases hu
      cases h
      exact .inr ⟨hk, e, rest, hw, rfl⟩

theorem rowDataXWrite_eq (h : rowDataXWrite a s = some t) :
    ∃ b d, Reached (frameByte (usesDir a s.dirOpcodeMulti) s.cfgAddr3 (byteOf s.ebuf s.i.toNat)) s.bus s.dev b d
      ∧ (s.i.toNat + 1 < elemBytes a
          ∧ t = { s.exchange (.xfer (byteOf s.ebuf s.i.toNat)) b d with i := s.i + 1 }
        ∨ ¬ s.i.toNat + 1 < elemBytes a ∧ s.k.toNat + 1 < elemCount a s.cur
          ∧ t = { s.exchange (.xfer (byteOf s.ebuf s.i.toNat)) b d with i := 0, k := s.k + 1, ph := .dataLd }
        ∨ ¬ s.i.toNat + 1 < elemBytes a ∧ ¬ s.k.toNat + 1 < elemCount a s.cur
          ∧ t = { s.exchange (.xfer (byteOf s.ebuf s.i.toNat)) b d with i := 0, ph := .fin }) := by
  unfold rowDataXWrite at h
  split at h
  · cases h
  · next hu =>
    obtain ⟨b, d, hd, rfl⟩ := sendByte_checkFrame hu
    refine ⟨b, d, hd, ?_⟩
    split at h
    · next hi => cases h; exact .inl ⟨hi, rfl⟩
    · next hi =>
      split at h
      · next hk => cases h; exact .inr (.inl ⟨hi, hk, rfl⟩)
      · next hk => cases h; exact .inr (.inr ⟨hi, hk, rfl⟩)

theorem rowDataXRead_eq (h : rowDataXRead a s = some t) :
    ∃ r b d, Reached (frameByte (usesDir a s.dirOpcodeMulti) s.cfgAddr3 Config.dummyTx) s.bus s.dev b d
      ∧ (s.i.toNat + 1 < elemBytes a
          ∧ t = { s.exchange (.xferKeep Config.dummyTx r) b d with
            acc := setByte s.acc s.i.toNat r, i := s.i + 1 }
        ∨ ¬ s.i.toNat + 1 < elemBytes a ∧ a.kind = .scalar
          ∧ t = { s.exchange (.xferKeep Config.dummyTx r) b d with
            acc := setByte s.acc s.i.toNat r
            rspRd := lowBytes (setByte s.acc s.i.toNat r) (elemBytes a)
            ph := .fin }
        ∨ ¬ s.i.toNat + 1 < elemBytes a ∧ a.kind ≠ .scalar
          ∧ t = { s.exchange (.xferKeep Config.dummyTx r) b d with
            acc := setByte s.acc s.i.toNat r, i := 0, ph := .dataSt }) := by
  unfold rowDataXRead at h
  split at h
  · cases h
  · next r u hu =>
    obtain ⟨b, d, hd, rfl⟩ := recvByte_checkFrame hu
    refine ⟨r, b, d, hd, ?_⟩
    split at h
    · next hi => cases h; exact .inl ⟨hi, rfl⟩
    · next hi =>
      split at h
      · next hk => cases h; exact .inr (.inl ⟨hi, hk, rfl⟩)
      · next hk => cases h; exact .inr (.inr ⟨hi, hk, rfl⟩)

/-- The read element goes out on the stream; the next one follows, or the command is at its end (R117). -/
theorem rowDataSt_eq (h : rowDataSt a s = some t) :
    ∃ r, s.rdReady.take = some r
      ∧ (s.k.toNat + 1 < elemCount a s.cur
          ∧ t = { s with
            rdReady := r, trace := s.trace ++ [.rd (lowBytes s.acc (elemBytes a))], k := s.k + 1, acc := 0
            ph := .dataX }
        ∨ ¬ s.k.toNat + 1 < elemCount a s.cur
          ∧ t = { s with
            rdReady := r, trace := s.trace ++ [.rd (lowBytes s.acc (elemBytes a))], acc := 0, ph := .fin }) := by
  unfold rowDataSt at h
  split at h
  · cases h
  · next u hu =>
    obtain ⟨r, hr, rfl⟩ := giveElement_cases hu
    refine ⟨r, hr, ?_⟩
    split at h
    · next hk => cases h; exact .inl ⟨hk, rfl⟩
    · next hk => cases h; exact .inr ⟨hk, rfl⟩

/-- R107: a cache hit goes to the data frame, a miss to the mode-write frame. -/
theorem rowMrcmp_eq (a : Access) (s : State) :
    (s.mcV = true ∧ s.mcVal = s.m
        ∧ rowMrcmp a s = { s with ai := firstAddrIndex s.cfgAddr3, ph := afterMode a s })
      ∨ ¬ (s.mcV = true ∧ s.mcVal = s.m) ∧ rowMrcmp a s = s.goto .mrOpc := by
  unfold rowMrcmp
  split
  · next h => exact .inl ⟨h.1, h.2, rfl⟩
  · next h => exact .inr ⟨h, rfl⟩

end

/-! ### The CHECK row -/

/-- CHECK executes exactly a legal INIT (R119). -/
theorem verdict_eq_doInit {c : Cmd} {s : State} : verdict c s = .doInit ↔ legal s.cur = true ∧ c = .init := by
  unfold verdict
  split
  · next hl => simp [hl]
  · next hl =>
    cases c with
    | illegal => simp
    | init => simpa using hl
    | access a =>
      dsimp only
      split_ifs <;> simp

/-- A read or write command that passed every check of R190, with M its mode (R106). -/
def Passed (a : Access) (s : State) : Prop :=
  s.cfgInit = true ∧ 0 < byteCount a s.cur
    ∧ (s.rangeCheck = true → inRange a s.cur s.cfgCapKbit.toNat = true) ∧ s.m = requestedMode a s.cfgHoldEn

/-- CHECK starts the transaction of a command only when it passes every check of R190. -/
theorem verdict_eq_transact {c : Cmd} {s : State} {a : Access} (h : verdict c s = .transact a) :
    c = .access a ∧ Passed a { s with m := requestedMode a s.cfgHoldEn } := by
  unfold verdict at h
  split at h
  · cases h
  · cases c with
    | illegal => cases h
    | init => cases h
    | access a' =>
      dsimp only at h
      split_ifs at h with hinit hcount hrange
      cases h
      exact ⟨rfl, by simpa using hinit, Nat.pos_of_ne_zero hcount, by simpa using hrange, rfl⟩

theorem rowCheck_eq (c : Cmd) (s : State) :
    (∃ st, rowCheck c s = respond st s)
      ∨ (legal s.cur = true ∧ c = .init ∧ rowCheck c s = respond .ok (doInit s))
      ∨ ∃ a, c = .access a ∧ Passed a { s with m := requestedMode a s.cfgHoldEn }
        ∧ rowCheck c s = { s with m := requestedMode a s.cfgHoldEn, rspRd := 0, ph := .sel } := by
  unfold rowCheck
  split
  · next st _ => exact .inl ⟨st, rfl⟩
  · next hv =>
    obtain ⟨hl, hc⟩ := verdict_eq_doInit.1 hv
    exact .inr (.inl ⟨hl, hc, rfl⟩)
  · next a hv =>
    obtain ⟨hc, hp⟩ := verdict_eq_transact hv
    exact .inr (.inr ⟨a, hc, hp, rfl⟩)

/-! ### What no row writes -/

/-- What no row of the FSM writes, for the command c in flight: the latched command (R122), the static parameters
(R36), the configuration unless the command is INIT (R22), and what is not the CORE's. -/
structure RowFrame (c : Cmd) (s t : State) : Prop where
  cur : t.cur = s.cur := by simp
  dirOpcodeMulti : t.dirOpcodeMulti = s.dirOpcodeMulti := by simp
  rangeCheck : t.rangeCheck = s.rangeCheck := by simp
  cfg : c ≠ .init → t.cfgInit = s.cfgInit ∧ t.cfgCapKbit = s.cfgCapKbit ∧ t.cfgAddr3 = s.cfgAddr3
    ∧ t.cfgHoldEn = s.cfgHoldEn := by simp
  wire : t.wire = s.wire := by simp
  resetIn : t.resetIn = s.resetIn := by simp
  bus : t.bus = .device ↔ s.bus = .device := by simp
  dev : s.dev.Evolves t.dev := by exact .refl _

theorem csAssert_evolves (s : State) : s.dev.Evolves (csAssert s).dev := by
  cases h : s.csAct with
  | true => rw [csAssert_of_asserted h]
  | false =>
    obtain ⟨d, hd, e⟩ := csAssert_reached h
    rw [e]; exact hd.evolves

theorem csDeassert_evolves {s : State} {d : Device} (hd : s.dev = d) : d.Evolves (csDeassert s).dev := by
  subst hd
  cases h : s.csAct with
  | true =>
    obtain ⟨d, hd, e⟩ := csDeassert_reached h
    rw [e]; exact hd.evolves
  | false => rw [csDeassert_of_deasserted h]

theorem rowCheck_rowFrame (c : Cmd) (s : State) : RowFrame c s (rowCheck c s) := by
  obtain ⟨st, h⟩ | ⟨-, rfl, h⟩ | ⟨a, -, -, h⟩ := rowCheck_eq c s
  · rw [h]; exact {}
  · rw [h]; exact { cfg := absurd rfl, dev := csDeassert_evolves rfl }
  · rw [h]; exact {}

theorem advance_rowFrame {c : Cmd} {s t : State} (h : advance c s = .go t) : RowFrame c s t := by
  obtain ⟨-, rfl⟩ | ⟨-, h⟩ | ⟨a, rfl, hrow⟩ := advance_cases h
  · exact rowCheck_rowFrame c s
  · obtain ⟨r, -, rfl⟩ := giveResponse_cases h
    exact {}
  · -- The rows in R120's order, from SEL to FIN.
    obtain ⟨-, rfl⟩ | ⟨-, rfl⟩ | ⟨-, u, hu, rfl⟩ | ⟨-, h⟩ | ⟨-, rfl⟩ | ⟨-, rfl⟩ | ⟨-, h⟩ | ⟨-, -, h⟩ | ⟨-, -, h⟩
      | ⟨-, -, -, h⟩ | ⟨-, -, -, h⟩ | ⟨-, -, -, -, h⟩ | ⟨-, rfl⟩ := hrow
    · exact { dev := csAssert_evolves s }
    · obtain ⟨-, -, h⟩ | ⟨-, h⟩ := rowMrcmp_eq a s
      · rw [h]; exact {}
      · rw [h]; exact {}
    · obtain ⟨b, d, hd, rfl⟩ := sendByte_reached hu
      exact { bus := hd.bus, dev := hd.evolves }
    · obtain ⟨b, d, hd, rfl⟩ := rowMrVal_eq h
      exact { bus := hd.bus, dev := hd.evolves }
    · exact { dev := csDeassert_evolves rfl }
    · unfold rowMrResel
      exact { dev := csAssert_evolves s }
    · obtain ⟨b, d, hd, rfl⟩ := rowDirb_eq h
      exact { bus := hd.bus, dev := hd.evolves }
    · obtain ⟨b, d, hd, ⟨-, rfl⟩ | ⟨-, rfl⟩⟩ := rowAddr_eq h
      · exact { bus := hd.bus, dev := hd.evolves }
      · exact { bus := hd.bus, dev := hd.evolves }
    · obtain ⟨-, rfl⟩ | ⟨-, e, rest, -, rfl⟩ := rowDataLd_eq h
      · exact {}
      · exact {}
    · obtain ⟨b, d, hd, ⟨-, rfl⟩ | ⟨-, -, rfl⟩ | ⟨-, -, rfl⟩⟩ := rowDataXWrite_eq h
      · exact { bus := hd.bus, dev := hd.evolves }
      · exact { bus := hd.bus, dev := hd.evolves }
      · exact { bus := hd.bus, dev := hd.evolves }
    · obtain ⟨r, b, d, hd, ⟨-, rfl⟩ | ⟨-, -, rfl⟩ | ⟨-, -, rfl⟩⟩ := rowDataXRead_eq h
      · exact { bus := hd.bus, dev := hd.evolves }
      · exact { bus := hd.bus, dev := hd.evolves }
      · exact { bus := hd.bus, dev := hd.evolves }
    · obtain ⟨r, -, ⟨-, rfl⟩ | ⟨-, rfl⟩⟩ := rowDataSt_eq h
      · exact {}
      · exact {}
    · unfold rowFin
      exact { dev := csDeassert_evolves rfl }

end Sys2Proof.Machine
end

section
/-! How a property of the machine with its command in flight goes from the single moves to a whole step: the moves as
step makes them, each with the command that CUR holds (R119, R122). -/

namespace Sys2Proof.Machine

open Sys2Proof

/-- What every single move keeps when the FSM runs the command in CUR, an idle CORE alone accepts, and a byte is given
by hand only where one is on the wire. -/
structure KeptInFlight (P : State → Prop) : Prop where
  hand : ∀ b s rest, s.wire ≠ [] → P s → P (handByte b { s with wire := rest })
  fetchWord : ∀ s rest, P s → P { s with cmdIn := rest }
  accept : ∀ cw s, s.ph = .idle → P s → P (accept cw s)
  advance : ∀ s t, P s → advance (cmdOf (decodeCmd s.cur)) s = .go t → P t
  wait : ∀ s, P s → P s.passTime
  reset : ∀ s, P s → P (coreReset s)

namespace KeptInFlight

variable {P : State → Prop} {c : Cmd} {cw : CmdWord} {n : Nat} {s t : State}

/-- The run's own invariant: P, and the command that runs is the one in CUR unless a reset has ended it. -/
def Running (P : State → Prop) (c : Cmd) (s : State) : Prop :=
  P s ∧ (s.ph = .idle ∨ c = cmdOf (decodeCmd s.cur))

theorem of_tick (hP : KeptInFlight P) (hs : Running P c s) (h : tick c s = .next t) : Running P c t := by
  obtain ⟨hs, hc⟩ := hs
  obtain ⟨-, rfl⟩ | ⟨-, u, hu, rfl⟩ | ⟨-, -, rfl⟩ := tick_cases h
  · exact ⟨hP.reset s hs, .inl rfl⟩
  · obtain hidle | rfl := hc
    · simp [Machine.advance, hidle] at hu
    · have hcur : u.cur = s.cur := (advance_rowFrame hu).cur
      exact ⟨hP.wait u (hP.advance s u hs hu), .inr (by rw [State.passTime_cur, hcur])⟩
  · exact ⟨hP.wait s hs, hc⟩

theorem of_run (hP : KeptInFlight P) (hs : Running P c s) (h : run n c s = .next t) : P t :=
  (run_keeps (fun _ _ hu hut => hP.of_tick hu hut) hs h).1

theorem of_execute (hP : KeptInFlight P) (hs : P s) (h : execute cw (cmdOf (decodeCmd cw)) s = .next t) : P t := by
  obtain ⟨hidle, h⟩ | ⟨-, rfl, h⟩ | ⟨-, -, rfl⟩ := execute_cases h
  · exact hP.of_run ⟨hP.accept cw s hidle hs, .inr rfl⟩ h
  · exact hP.of_run ⟨hs, .inr rfl⟩ h
  · exact hs

/-- A command word that has been fetched runs as its decoding says. -/
theorem of_exec (hP : KeptInFlight P) (hs : P s) (h : exec (decodeCmd cw) s = .next t) : P t :=
  hP.of_execute hs (exec_command (commandWord_decodeCmd cw) s ▸ h)

theorem of_quietMove (hP : KeptInFlight P) (hs : P s) : P (quietMove s) := by
  obtain ⟨b, rest, hw, h⟩ | ⟨-, -, h⟩ | ⟨-, -, h⟩ := quietMove_cases s
  · exact h ▸ hP.hand b s rest (by simp [hw]) hs
  · exact h ▸ hP.reset s hs
  · exact h ▸ hP.wait s hs

/-- What every single move keeps with the command in CUR, a step keeps. -/
theorem of_step (hP : KeptInFlight P) (hs : P s) (h : step s = .next t) : P t := by
  unfold step at h
  split at h
  · next i u hu =>
    obtain ⟨b, rest, hw, -, hb, rfl⟩ | ⟨-, -, -, cw, rest, -, rfl, rfl⟩ | ⟨-, -, -, rfl, rfl⟩ := nextInstr_cases hu
    · cases (exec_device (encode_of_decodeDev hb) _).symm.trans h
      exact hP.hand b s rest (by simp [hw]) hs
    · exact hP.of_exec (hP.fetchWord s rest hs) h
    · exact hP.of_exec hs h
  · cases h
    exact hP.of_quietMove hs

end KeptInFlight

end Sys2Proof.Machine
end

section
/-! The statements of 10_state.md about the state after reset (O39, O42, O46), and about what a step writes and what it
sends (O29, O33, O34). -/

namespace Sys2Proof.Machine

open Sys2Proof

/-! ### Reset -/

/-- Settles O39: every value is a field of the reset state, or an output computed from it. -/
theorem resetLeavesTheStatedValues : Obligations.ResetLeavesTheStatedValues := by
  unfold Obligations.ResetLeavesTheStatedValues
  decide

/-- Settles O42: nothing is configured or cached, the line is deasserted and the trace empty, and CUR is no command in
flight. -/
theorem invariantHoldsAtReset : Obligations.InvariantHoldsAtReset where
  cfg := rfl
  cache := rfl
  line := rfl
  trace := rfl
  flight := rfl
  mem := reset_mem_wf

/-- Settles O46: the cache is not valid and no frame is open. -/
theorem cacheMirrorHoldsAtReset : Obligations.CacheMirrorHoldsAtReset where
  noHand := rfl
  mode _ _ hv := by cases hv
  frame _ _ := rfl

/-! ### What a step writes -/

/-- The static parameters and the device's capacity stay in every move (R36, R222). -/
theorem keptByMoves_static (dir range : Bool) (cap : Nat) :
    KeptByMoves fun s => s.dirOpcodeMulti = dir ∧ s.rangeCheck = range ∧ s.dev.capKbit = cap where
  fetchByte _ _ hs := hs
  fetchWord _ _ hs := hs
  hand b s := fun ⟨hdir, hrange, hcap⟩ => ⟨hdir, hrange, (s.dev.byte_capKbit b).trans hcap⟩
  accept _ _ hs := hs
  advance _ _ _ := fun ⟨hdir, hrange, hcap⟩ h =>
    have hrow := advance_rowFrame h
    ⟨hrow.dirOpcodeMulti.trans hdir, hrow.rangeCheck.trans hrange, hrow.dev.capKbit.trans hcap⟩
  wait _ hs := hs
  reset s := fun ⟨hdir, hrange, hcap⟩ => ⟨hdir, hrange, (Device.Evolves.coreReset s).capKbit.trans hcap⟩

/-- Settles O33: no single move writes them, so no step does. -/
theorem noStepWritesTheStaticParameters : Obligations.NoStepWritesTheStaticParameters := by
  unfold Obligations.NoStepWritesTheStaticParameters
  intro s t h
  exact (keptByMoves_static s.dirOpcodeMulti s.rangeCheck s.dev.capKbit).of_step ⟨rfl, rfl, rfl⟩ h

/-- The configuration of a state whose RESET agent stays quiet is that of s. -/
def SameConfig (s t : State) : Prop :=
  t.resetIn = none ∧ t.cfgInit = s.cfgInit ∧ t.cfgCapKbit = s.cfgCapKbit ∧ t.cfgAddr3 = s.cfgAddr3
    ∧ t.cfgHoldEn = s.cfgHoldEn

theorem sameConfig_tick {c : Cmd} {s t u : State} (hc : c ≠ .init) (hs : SameConfig s t) (h : tick c t = .next u) :
    SameConfig s u := by
  obtain ⟨hreset, hinit, hcap, haddr3, hhold⟩ := hs
  obtain ⟨hr, -⟩ | ⟨-, v, hv, rfl⟩ | ⟨-, -, rfl⟩ := tick_cases h
  · simp [hreset] at hr
  · have hrow := advance_rowFrame hv
    obtain ⟨vinit, vcap, vaddr3, vhold⟩ := hrow.cfg hc
    exact ⟨by simp [hrow.resetIn, hreset], vinit.trans hinit, vcap.trans hcap, vaddr3.trans haddr3,
      vhold.trans hhold⟩
  · exact ⟨by simp [hreset], hinit, hcap, haddr3, hhold⟩

/-- Settles O34: with no reset coming only CHECK's INIT row writes CFG, and a run of another command has none. -/
theorem onlyInitWritesTheConfiguration : Obligations.OnlyInitWritesTheConfiguration := by
  unfold Obligations.OnlyInitWritesTheConfiguration
  intro i s t hi hreset h
  have hc : cmdOf i ≠ .init := fun e => have ⟨c, hold, e⟩ := cmdOf_eq_init.1 e; hi c hold e
  have hs : SameConfig s s := ⟨hreset, rfl, rfl, rfl, rfl⟩
  suffices SameConfig s t from this.2
  obtain ⟨cw, -, he⟩ | ⟨b, -, he⟩ := exec_cases i s
  · obtain ⟨-, h⟩ | ⟨-, -, h⟩ | ⟨-, -, rfl⟩ := execute_cases (he ▸ h)
    · have haccept : SameConfig s (accept cw s) := ⟨by simp [hreset], rfl, rfl, rfl, rfl⟩
      exact run_keeps (fun _ _ => sameConfig_tick hc) haccept h
    · exact run_keeps (fun _ _ => sameConfig_tick hc) hs h
    · exact hs
  · cases he.symm.trans h
    exact ⟨hreset, rfl, rfl, rfl, rfl⟩

/-! ### What a transfer carries -/

/-- The byte a transfer event carries to the BUS (R11). -/
def carried : Event → Option Byte
  | .xfer t => some t
  | .xferKeep t _ => some t
  | .accept _ => none
  | .sel => none
  | .desel => none
  | .wd _ => none
  | .rd _ => none
  | .rsp _ _ => none
  | .reset => none

/-- An event that, when it is a transfer, carries the byte offered on xfer_tx in s (R39). -/
def Offered (s : State) (e : Event) : Prop := ∀ b, carried e = some b → xferTx s = some b

/-- An event that is no transfer carries nothing that would have to be offered. -/
theorem offered_of_silent {s : State} {e : Event} (h : carried e = none) : Offered s e := fun b hb => by
  simp [h] at hb

theorem offered_ite {s : State} {e : Event} {p : Prop} [Decidable p] (h : carried e = none) :
    ∀ e' ∈ (if p then [e] else []), Offered s e' := by
  split
  · simpa using offered_of_silent h
  · simp

/-- R39, R120: what the FSM's rows for the command in CUR send is what xfer_tx shows in their phase. -/
theorem advance_offered {s t : State} (h : advance (cmdOf (decodeCmd s.cur)) s = .go t) :
    ∃ l, t.trace = s.trace ++ l ∧ ∀ e ∈ l, Offered s e := by
  have one (e : Event) (ht : t.trace = s.trace ++ [e]) (he : Offered s e) :
      ∃ l, t.trace = s.trace ++ l ∧ ∀ e ∈ l, Offered s e := ⟨[e], ht, by simpa using he⟩
  obtain ⟨-, rfl⟩ | ⟨-, h⟩ | ⟨a, ha, hrow⟩ := advance_cases h
  · exact ⟨_, rowCheck_trace _ s, offered_ite rfl⟩
  · exact one _ (giveResponse_trace h) (offered_of_silent rfl)
  · have hflight : s.flight = some a := cmdOf_eq_access.1 ha
    -- The rows in R120's order, from SEL to FIN.
    obtain ⟨-, rfl⟩ | ⟨-, rfl⟩ | ⟨hp, u, hu, rfl⟩ | ⟨hp, h⟩ | ⟨-, rfl⟩ | ⟨-, rfl⟩ | ⟨hp, h⟩ | ⟨hp, -, h⟩ | ⟨-, -, h⟩
      | ⟨hp, -, hread, h⟩ | ⟨hp, -, hread, h⟩ | ⟨-, -, -, -, h⟩ | ⟨-, rfl⟩ := hrow
    · exact ⟨_, (csAssert_trace s).trans (by rw [← ite_not]), offered_ite rfl⟩
    · exact ⟨[], by simp, by simp⟩
    · exact one _ ((State.goto_trace u _).trans (sendByte_trace hu)) (by simp [Offered, carried, xferTx, hp, hflight])
    · exact one _ (rowMrVal_trace h) (by simp [Offered, carried, xferTx, hp, hflight])
    · exact ⟨_, csDeassert_trace s, offered_ite rfl⟩
    · exact ⟨_, (rowMrResel_trace a s).trans (by rw [← ite_not]), offered_ite rfl⟩
    · exact one _ (rowDirb_trace h) (by simp [Offered, carried, xferTx, hp, hflight])
    · exact one _ (rowAddr_trace h) (by simp [Offered, carried, xferTx, hp, hflight])
    · obtain ht | ⟨e, ht⟩ := rowDataLd_trace h
      · exact ⟨[], by simpa using ht, by simp⟩
      · exact one _ ht (offered_of_silent rfl)
    · exact one _ (rowDataXWrite_trace h) (by simp [Offered, carried, xferTx, hp, hflight, hread])
    · obtain ⟨r, ht⟩ := rowDataXRead_trace h
      exact one _ ht (by simp [Offered, carried, xferTx, hp, hflight, hread])
    · exact one _ (rowDataSt_trace h) (offered_of_silent rfl)
    · exact ⟨_, rowFin_trace s, offered_ite rfl⟩

theorem tick_offered {s t : State} (hreset : s.resetIn ≠ some 0) (h : tick (cmdOf (decodeCmd s.cur)) s = .next t) :
    ∃ l, t.trace = s.trace ++ l ∧ ∀ e ∈ l, Offered s e := by
  obtain ⟨hr, -⟩ | ⟨-, u, hu, rfl⟩ | ⟨-, -, rfl⟩ := tick_cases h
  · exact absurd hr hreset
  · obtain ⟨l, hl⟩ := advance_offered hu
    exact ⟨l, hl⟩
  · exact ⟨[], by simp, by simp⟩

/-- Settles O29: each of the FSM's sending rows sends what xfer_tx shows, and no other row makes a transfer event. -/
theorem transfersCarryTheOfferedByte : Obligations.TransfersCarryTheOfferedByte := by
  unfold Obligations.TransfersCarryTheOfferedByte
  intro s t _ hreset h
  obtain ⟨l, hl, hoffered⟩ := tick_offered hreset h
  have event (e : Event) (ht : t.trace = s.trace ++ [e]) : Offered s e := by
    obtain rfl : l = [e] := List.append_cancel_left (hl.symm.trans ht)
    exact hoffered e (by simp)
  exact ⟨fun b ht => event _ ht b rfl, fun b r ht => event _ ht b rfl⟩

end Sys2Proof.Machine
end

section
/-! The invariant of the CORE, row by row of the FSM (R102, R103, R120, R121), and O43. -/

namespace Sys2Proof.Machine

open Sys2Proof Sys2Proof.Safety

/-! ### The line over the trace -/

theorem lineAfter_append {tr : List Event} {e : Event} {x y : Bool} (h : lineAfter tr = some x)
    (he : lineStep (some x) e = some y) : lineAfter (tr ++ [e]) = some y := by
  rw [lineAfter, List.foldl_append, ← lineAfter, h]
  exact he

/-! ### Counters -/

theorem elemBytes_pos (a : Access) : 0 < elemBytes a := by
  unfold elemBytes
  cases a.kind <;> cases a.width <;> decide

theorem elemBytes_le (a : Access) : elemBytes a ≤ 4 := by
  unfold elemBytes
  cases a.kind <;> cases a.width <;> decide

theorem elemCount_lt (a : Access) (cw : CmdWord) : elemCount a cw < 2 ^ 16 := by
  unfold elemCount
  cases a.kind with
  | scalar => exact Nat.one_lt_two_pow (by decide)
  | block => exact (cwCount cw).isLt
  | page => exact (by decide : Config.pageSize < 2 ^ 16)

theorem elemCount_pos {a : Access} {cw : CmdWord} (h : 0 < byteCount a cw) : 0 < elemCount a cw :=
  Nat.pos_of_mul_pos_right h

/-- AI starts at the last address byte, the most significant one (R29). -/
theorem firstAddrIndex_toNat (addr3 : Bool) : (firstAddrIndex addr3).toNat + 1 = addrBytes addr3 := by
  cases addr3 <;> rfl

theorem toNat_pred {x : BitVec 2} (h : x ≠ 0) : (x - 1).toNat + 1 = x.toNat := by
  revert x; decide

theorem countersInRange_iff {a : Access} {s : State} :
    countersInRange a s = true ↔ s.i.toNat < elemBytes a ∧ s.k.toNat < elemCount a s.cur := by
  simp [countersInRange]

/-! ### What the invariant says in each phase of a read or write command -/

section

variable {a : Access} {s : State}

/-- The mode cache holds the mode of the command in flight (R107). -/
def ModeSet (s : State) : Prop := s.mcV = true ∧ s.mcVal = s.m

theorem phaseFits_mrDesel (hp : s.ph = .mrDesel) : phaseFits a s = true ↔ ModeSet s := by
  simp [phaseFits, hp, ModeSet]

theorem phaseFits_mrResel (hp : s.ph = .mrResel) : phaseFits a s = true ↔ ModeSet s := by
  simp [phaseFits, hp, ModeSet]

theorem phaseFits_dirb (hp : s.ph = .dirb) :
    phaseFits a s = true ↔
      ModeSet s ∧ usesDir a s.dirOpcodeMulti = true ∧ s.ai = firstAddrIndex s.cfgAddr3 := by
  simp [phaseFits, hp, ModeSet, and_assoc]

theorem phaseFits_addr (hp : s.ph = .addr) :
    phaseFits a s = true ↔ ModeSet s ∧ s.ai.toNat < addrBytes s.cfgAddr3 := by
  simp [phaseFits, hp, ModeSet]

theorem phaseFits_dataLd (hp : s.ph = .dataLd) :
    phaseFits a s = true ↔ ModeSet s ∧ a.read = false ∧ s.i = 0 ∧ countersInRange a s = true := by
  simp [phaseFits, hp, ModeSet, and_assoc]

theorem phaseFits_dataX (hp : s.ph = .dataX) :
    phaseFits a s = true ↔ ModeSet s ∧ countersInRange a s = true := by
  simp [phaseFits, hp, ModeSet]

theorem phaseFits_dataSt (hp : s.ph = .dataSt) :
    phaseFits a s = true ↔
      ModeSet s ∧ a.read = true ∧ a.kind ≠ .scalar ∧ s.i = 0 ∧ countersInRange a s = true := by
  simp [phaseFits, hp, ModeSet, and_assoc]

theorem phaseFits_fin (hp : s.ph = .fin) : phaseFits a s = true ↔ ModeSet s := by
  simp [phaseFits, hp, ModeSet]

theorem flightLegal_of_idle (hp : inFlight s.ph = false) : flightLegal s = true := by
  unfold flightLegal
  split
  · simp [hp]
  · simp [hp]

theorem flightLegal_iff (ha : s.flight = some a) (hp : inFlight s.ph = true) :
    flightLegal s = true ↔ Passed a s ∧ phaseFits a s = true := by
  have ha' : accessOf (decodeCmd s.cur) = some a := ha
  unfold flightLegal Passed
  rw [ha']
  cases hr : s.rangeCheck <;> simp [hp, and_assoc]

theorem flightLegal_of_passed (ha : s.flight = some a) (hp : inFlight s.ph = true) (hpass : Passed a s)
    (hfits : phaseFits a s = true) : flightLegal s = true :=
  (flightLegal_iff ha hp).2 ⟨hpass, hfits⟩

/-- The line is as its phase has it, and the trace is one of that line (R102). -/
theorem inv_line {x : Bool} (hs : Inv s) (hp : selectedPhase s.ph = x) :
    s.csAct = x ∧ lineAfter s.trace = some x :=
  have hcs : s.csAct = x := hs.line.trans hp
  ⟨hcs, hcs ▸ hs.trace⟩

/-- An event that leaves the line as it is. -/
theorem inv_trace_append {e : Event} {x : Bool} (hs : Inv s) (hcs : s.csAct = x)
    (he : lineStep (some x) e = some x) : lineAfter (s.trace ++ [e]) = some s.csAct := by
  subst hcs
  exact lineAfter_append hs.trace he

/-- A command in flight passed CHECK, and its phase and counters fit it. -/
theorem inv_inFlight (hs : Inv s) (ha : s.flight = some a) (hp : inFlight s.ph = true) :
    Passed a s ∧ phaseFits a s = true :=
  (flightLegal_iff ha hp).1 hs.flight

end

section

variable {a : Access} {s t : State}

/-! ### CHECK and RSP -/

theorem inv_rowCheck (hs : Inv s) (hp : s.ph = .check) : Inv (rowCheck (cmdOf (decodeCmd s.cur)) s) := by
  have hcs : s.csAct = false := hs.line.trans (by rw [hp]; rfl)
  obtain ⟨st, h⟩ | ⟨hl, hc, h⟩ | ⟨a, hc, hpass, h⟩ := rowCheck_eq (cmdOf (decodeCmd s.cur)) s
  · rw [h]
    exact ⟨hs.cfg, hs.cache, hcs, hs.trace, flightLegal_of_idle rfl, hs.mem⟩
  · obtain ⟨c, hold, hi⟩ := cmdOf_eq_init.1 hc
    rw [h, doInit_of_deasserted hcs]
    refine ⟨?_, rfl, hcs, hs.trace, flightLegal_of_idle rfl, hs.mem⟩
    simpa [cfgLegal, State.curAddr] using cap_of_init hl hi
  · have ha : s.flight = some a := cmdOf_eq_access.1 hc
    rw [h]
    exact ⟨hs.cfg, hs.cache, hcs, hs.trace, flightLegal_of_passed ha rfl hpass rfl, hs.mem⟩

theorem inv_giveResponse (hs : Inv s) (hp : s.ph = .rsp) (h : giveResponse s = some t) : Inv t := by
  have hcs : s.csAct = false := hs.line.trans (by rw [hp]; rfl)
  obtain ⟨r, -, rfl⟩ := giveResponse_cases h
  exact ⟨hs.cfg, hs.cache, hcs, inv_trace_append hs hcs rfl, flightLegal_of_idle rfl, hs.mem⟩

/-! ### SEL to MR_RESEL: the mode is set (R107) -/

theorem inv_rowSel (hs : Inv s) (ha : s.flight = some a) (hp : s.ph = .sel) : Inv ((csAssert s).goto .mrcmp) := by
  obtain ⟨hcs, htr⟩ := inv_line (x := false) hs (by rw [hp]; rfl)
  obtain ⟨hpass, -⟩ := inv_inFlight hs ha (by rw [hp]; rfl)
  obtain ⟨d, hd, h⟩ := csAssert_reached hcs
  rw [h]
  exact ⟨hs.cfg, hs.cache, rfl, lineAfter_append htr rfl, flightLegal_of_passed ha rfl hpass rfl,
    hd.evolves.wf hs.mem⟩

theorem afterMode_selected (a : Access) (s : State) : selectedPhase (afterMode a s) = true := by
  unfold afterMode
  split <;> rfl

theorem afterMode_inFlight (a : Access) (s : State) : inFlight (afterMode a s) = true := by
  unfold afterMode
  split <;> rfl

/-- The data frame starts with its direction byte or its first address byte, the mode being set (R110, R112). -/
theorem phaseFits_afterMode (hset : ModeSet s) (hai : s.ai = firstAddrIndex s.cfgAddr3) (hp : s.ph = afterMode a s) :
    phaseFits a s = true := by
  unfold afterMode at hp
  split at hp
  · next hdir => exact (phaseFits_dirb hp).2 ⟨hset, hdir, hai⟩
  · have hfirst := firstAddrIndex_toNat s.cfgAddr3
    exact (phaseFits_addr hp).2 ⟨hset, by rw [hai]; omega⟩

theorem inv_rowMrcmp (hs : Inv s) (ha : s.flight = some a) (hp : s.ph = .mrcmp) : Inv (rowMrcmp a s) := by
  have hcs : s.csAct = true := hs.line.trans (by rw [hp]; rfl)
  obtain ⟨hpass, -⟩ := inv_inFlight hs ha (by rw [hp]; rfl)
  obtain ⟨hv, hval, h⟩ | ⟨-, h⟩ := rowMrcmp_eq a s
  · rw [h]
    exact ⟨hs.cfg, hs.cache, hcs.trans (afterMode_selected a s).symm, hs.trace,
      flightLegal_of_passed ha (afterMode_inFlight a s) hpass (phaseFits_afterMode ⟨hv, hval⟩ rfl rfl), hs.mem⟩
  · rw [h]
    exact ⟨hs.cfg, hs.cache, hcs, hs.trace, flightLegal_of_passed ha rfl hpass rfl, hs.mem⟩

theorem inv_rowMrOpc (hs : Inv s) (ha : s.flight = some a) (hp : s.ph = .mrOpc)
    (h : sendByte Config.insWrmr s = some t) : Inv (t.goto .mrVal) := by
  have hcs : s.csAct = true := hs.line.trans (by rw [hp]; rfl)
  obtain ⟨hpass, -⟩ := inv_inFlight hs ha (by rw [hp]; rfl)
  obtain ⟨b, d, hd, rfl⟩ := sendByte_reached h
  exact ⟨hs.cfg, hs.cache, hcs, inv_trace_append hs hcs rfl, flightLegal_of_passed ha rfl hpass rfl,
    hd.evolves.wf hs.mem⟩

/-- R24, R106: the requested mode byte is one the mode cache may hold. -/
theorem cacheLegal_of_requestedMode (hinit : s.cfgInit = true) (hval : s.mcVal = requestedMode a s.cfgHoldEn) :
    cacheLegal s = true := by
  cases hm : modeOf a <;> simp [cacheLegal, hinit, hval, requestedMode, hm, modeCode]

theorem inv_rowMrVal (hs : Inv s) (ha : s.flight = some a) (hp : s.ph = .mrVal) (h : rowMrVal s = some t) :
    Inv t := by
  have hcs : s.csAct = true := hs.line.trans (by rw [hp]; rfl)
  obtain ⟨hpass, -⟩ := inv_inFlight hs ha (by rw [hp]; rfl)
  obtain ⟨b, d, hd, rfl⟩ := rowMrVal_eq h
  obtain ⟨hinit, -, -, hm⟩ := id hpass
  exact ⟨hs.cfg, cacheLegal_of_requestedMode hinit hm, hcs, inv_trace_append hs hcs rfl,
    flightLegal_of_passed ha rfl hpass (Iff.mpr (phaseFits_mrDesel rfl) ⟨rfl, rfl⟩), hd.evolves.wf hs.mem⟩

theorem inv_rowMrDesel (hs : Inv s) (ha : s.flight = some a) (hp : s.ph = .mrDesel) :
    Inv ((csDeassert s).goto .mrResel) := by
  obtain ⟨hcs, htr⟩ := inv_line (x := true) hs (by rw [hp]; rfl)
  obtain ⟨hpass, hfits⟩ := inv_inFlight hs ha (by rw [hp]; rfl)
  have hset := (phaseFits_mrDesel hp).1 hfits
  obtain ⟨d, hd, h⟩ := csDeassert_reached hcs
  rw [h]
  exact ⟨hs.cfg, hs.cache, rfl, lineAfter_append htr rfl,
    flightLegal_of_passed ha rfl hpass (Iff.mpr (phaseFits_mrResel rfl) hset), hd.evolves.wf hs.mem⟩

theorem inv_rowMrResel (hs : Inv s) (ha : s.flight = some a) (hp : s.ph = .mrResel) : Inv (rowMrResel a s) := by
  obtain ⟨hcs, htr⟩ := inv_line (x := false) hs (by rw [hp]; rfl)
  obtain ⟨hpass, hfits⟩ := inv_inFlight hs ha (by rw [hp]; rfl)
  have hset := (phaseFits_mrResel hp).1 hfits
  obtain ⟨d, hd, h⟩ := csAssert_reached hcs
  rw [rowMrResel, h]
  exact ⟨hs.cfg, hs.cache, (afterMode_selected a s).symm, lineAfter_append htr rfl,
    flightLegal_of_passed ha (afterMode_inFlight a s) hpass (phaseFits_afterMode hset rfl rfl), hd.evolves.wf hs.mem⟩

/-! ### DIRB to FIN: the data frame (R112, R117) -/

theorem inv_rowDirb (hs : Inv s) (ha : s.flight = some a) (hp : s.ph = .dirb) (h : rowDirb a s = some t) :
    Inv t := by
  have hcs : s.csAct = true := hs.line.trans (by rw [hp]; rfl)
  obtain ⟨hpass, hfits⟩ := inv_inFlight hs ha (by rw [hp]; rfl)
  obtain ⟨hset, -, hai⟩ := (phaseFits_dirb hp).1 hfits
  have hlt : s.ai.toNat < addrBytes s.cfgAddr3 := by
    rw [hai, ← firstAddrIndex_toNat]; omega
  obtain ⟨b, d, hd, rfl⟩ := rowDirb_eq h
  exact ⟨hs.cfg, hs.cache, hcs, inv_trace_append hs hcs rfl,
    flightLegal_of_passed ha rfl hpass (Iff.mpr (phaseFits_addr rfl) ⟨hset, hlt⟩), hd.evolves.wf hs.mem⟩

/-- The data phase starts with its counters at 0 (R115). -/
theorem countersInRange_zero (hpass : Passed a s) (hi : s.i = 0) (hk : s.k = 0) : countersInRange a s = true := by
  obtain ⟨-, hcount, -, -⟩ := hpass
  exact countersInRange_iff.2 ⟨by simpa [hi] using elemBytes_pos a, by simpa [hk] using elemCount_pos hcount⟩

theorem inv_rowAddr (hs : Inv s) (ha : s.flight = some a) (hp : s.ph = .addr) (h : rowAddr a s = some t) :
    Inv t := by
  have hcs : s.csAct = true := hs.line.trans (by rw [hp]; rfl)
  have hin : inFlight s.ph = true := by rw [hp]; rfl
  obtain ⟨hpass, hfits⟩ := inv_inFlight hs ha hin
  obtain ⟨hset, hlt⟩ := (phaseFits_addr hp).1 hfits
  obtain ⟨b, d, hd, ⟨-, rfl⟩ | ⟨hai, rfl⟩⟩ := rowAddr_eq h
  · have htr := inv_trace_append (e := .xfer (addrByte s.curAddr s.ai.toNat)) hs hcs rfl
    cases hread : a.read with
    | true =>
      exact ⟨hs.cfg, hs.cache, hcs, htr, flightLegal_of_passed ha rfl hpass
        (Iff.mpr (phaseFits_dataX rfl) ⟨hset, countersInRange_zero hpass rfl rfl⟩), hd.evolves.wf hs.mem⟩
    | false =>
      exact ⟨hs.cfg, hs.cache, hcs, htr, flightLegal_of_passed ha rfl hpass
        (Iff.mpr (phaseFits_dataLd rfl) ⟨hset, hread, rfl, countersInRange_zero hpass rfl rfl⟩),
        hd.evolves.wf hs.mem⟩
  · have hnext : (s.ai - 1).toNat < addrBytes s.cfgAddr3 := by
      have hpred := toNat_pred hai
      omega
    exact ⟨hs.cfg, hs.cache, hs.line, inv_trace_append hs hcs rfl,
      flightLegal_of_passed ha hin hpass (Iff.mpr (phaseFits_addr hp) ⟨hset, hnext⟩),
      hd.evolves.wf hs.mem⟩

theorem inv_rowDataLd (hs : Inv s) (ha : s.flight = some a) (hp : s.ph = .dataLd) (h : rowDataLd a s = some t) :
    Inv t := by
  have hcs : s.csAct = true := hs.line.trans (by rw [hp]; rfl)
  obtain ⟨hpass, hfits⟩ := inv_inFlight hs ha (by rw [hp]; rfl)
  obtain ⟨hset, -, -, hcount⟩ := (phaseFits_dataLd hp).1 hfits
  obtain ⟨-, rfl⟩ | ⟨-, e, rest, -, rfl⟩ := rowDataLd_eq h
  · exact ⟨hs.cfg, hs.cache, hcs, hs.trace,
      flightLegal_of_passed ha rfl hpass (Iff.mpr (phaseFits_dataX rfl) ⟨hset, hcount⟩), hs.mem⟩
  · exact ⟨hs.cfg, hs.cache, hcs, inv_trace_append hs hcs rfl,
      flightLegal_of_passed ha rfl hpass (Iff.mpr (phaseFits_dataX rfl) ⟨hset, hcount⟩), hs.mem⟩

/-- The next byte of an element, when it has one (R121). -/
theorem nextByte_lt (h : s.i.toNat + 1 < elemBytes a) : (s.i + 1).toNat < elemBytes a := by
  have hle := elemBytes_le a
  rw [BitVec.toNat_add_of_lt (by simp; omega)]
  simpa using h

/-- The next element, when there is one (R121). -/
theorem nextElement_lt (h : s.k.toNat + 1 < elemCount a s.cur) : (s.k + 1).toNat < elemCount a s.cur := by
  have hlt := elemCount_lt a s.cur
  rw [BitVec.toNat_add_of_lt (by simp; omega)]
  simpa using h

theorem inv_rowDataXWrite (hs : Inv s) (ha : s.flight = some a) (hp : s.ph = .dataX) (hread : a.read = false)
    (h : rowDataXWrite a s = some t) : Inv t := by
  have hcs : s.csAct = true := hs.line.trans (by rw [hp]; rfl)
  have hin : inFlight s.ph = true := by rw [hp]; rfl
  obtain ⟨hpass, hfits⟩ := inv_inFlight hs ha hin
  obtain ⟨hset, hcount⟩ := (phaseFits_dataX hp).1 hfits
  obtain ⟨-, hk⟩ := countersInRange_iff.1 hcount
  obtain ⟨b, d, hd, ⟨hi, rfl⟩ | ⟨-, hk', rfl⟩ | ⟨-, -, rfl⟩⟩ := rowDataXWrite_eq h
  · exact ⟨hs.cfg, hs.cache, hs.line, inv_trace_append hs hcs rfl,
      flightLegal_of_passed ha hin hpass
        (Iff.mpr (phaseFits_dataX hp) ⟨hset, Iff.mpr countersInRange_iff ⟨nextByte_lt hi, hk⟩⟩),
      hd.evolves.wf hs.mem⟩
  · exact ⟨hs.cfg, hs.cache, hcs, inv_trace_append hs hcs rfl,
      flightLegal_of_passed ha rfl hpass (Iff.mpr (phaseFits_dataLd rfl)
        ⟨hset, hread, rfl, Iff.mpr countersInRange_iff ⟨elemBytes_pos a, nextElement_lt hk'⟩⟩),
      hd.evolves.wf hs.mem⟩
  · exact ⟨hs.cfg, hs.cache, hcs, inv_trace_append hs hcs rfl,
      flightLegal_of_passed ha rfl hpass (Iff.mpr (phaseFits_fin rfl) hset), hd.evolves.wf hs.mem⟩

theorem inv_rowDataXRead (hs : Inv s) (ha : s.flight = some a) (hp : s.ph = .dataX) (hread : a.read = true)
    (h : rowDataXRead a s = some t) : Inv t := by
  have hcs : s.csAct = true := hs.line.trans (by rw [hp]; rfl)
  have hin : inFlight s.ph = true := by rw [hp]; rfl
  obtain ⟨hpass, hfits⟩ := inv_inFlight hs ha hin
  obtain ⟨hset, hcount⟩ := (phaseFits_dataX hp).1 hfits
  obtain ⟨-, hk⟩ := countersInRange_iff.1 hcount
  obtain ⟨r, b, d, hd, ⟨hi, rfl⟩ | ⟨-, -, rfl⟩ | ⟨-, hkind, rfl⟩⟩ := rowDataXRead_eq h
  · exact ⟨hs.cfg, hs.cache, hs.line, inv_trace_append hs hcs rfl,
      flightLegal_of_passed ha hin hpass
        (Iff.mpr (phaseFits_dataX hp) ⟨hset, Iff.mpr countersInRange_iff ⟨nextByte_lt hi, hk⟩⟩),
      hd.evolves.wf hs.mem⟩
  · exact ⟨hs.cfg, hs.cache, hcs, inv_trace_append hs hcs rfl,
      flightLegal_of_passed ha rfl hpass (Iff.mpr (phaseFits_fin rfl) hset), hd.evolves.wf hs.mem⟩
  · exact ⟨hs.cfg, hs.cache, hcs, inv_trace_append hs hcs rfl,
      flightLegal_of_passed ha rfl hpass (Iff.mpr (phaseFits_dataSt rfl)
        ⟨hset, hread, hkind, rfl, Iff.mpr countersInRange_iff ⟨elemBytes_pos a, hk⟩⟩),
      hd.evolves.wf hs.mem⟩

theorem inv_rowDataSt (hs : Inv s) (ha : s.flight = some a) (hp : s.ph = .dataSt) (h : rowDataSt a s = some t) :
    Inv t := by
  have hcs : s.csAct = true := hs.line.trans (by rw [hp]; rfl)
  obtain ⟨hpass, hfits⟩ := inv_inFlight hs ha (by rw [hp]; rfl)
  obtain ⟨hset, -, -, -, hcount⟩ := (phaseFits_dataSt hp).1 hfits
  obtain ⟨hi, -⟩ := countersInRange_iff.1 hcount
  obtain ⟨r, -, ⟨hk, rfl⟩ | ⟨-, rfl⟩⟩ := rowDataSt_eq h
  · exact ⟨hs.cfg, hs.cache, hcs, inv_trace_append hs hcs rfl,
      flightLegal_of_passed ha rfl hpass
        (Iff.mpr (phaseFits_dataX rfl) ⟨hset, Iff.mpr countersInRange_iff ⟨hi, nextElement_lt hk⟩⟩), hs.mem⟩
  · exact ⟨hs.cfg, hs.cache, hcs, inv_trace_append hs hcs rfl,
      flightLegal_of_passed ha rfl hpass (Iff.mpr (phaseFits_fin rfl) hset), hs.mem⟩

theorem inv_rowFin (hs : Inv s) (hp : s.ph = .fin) : Inv (rowFin s) := by
  obtain ⟨hcs, htr⟩ := inv_line (x := true) hs (by rw [hp]; rfl)
  obtain ⟨d, hd, h⟩ := csDeassert_reached hcs
  rw [rowFin, h]
  exact ⟨hs.cfg, hs.cache, rfl, lineAfter_append htr rfl, flightLegal_of_idle rfl, hd.evolves.wf hs.mem⟩

/-! ### Every move -/

theorem inv_advance (hs : Inv s) (h : advance (cmdOf (decodeCmd s.cur)) s = .go t) : Inv t := by
  obtain ⟨hp, rfl⟩ | ⟨hp, h⟩ | ⟨a, hc, hrow⟩ := advance_cases h
  · exact inv_rowCheck hs hp
  · exact inv_giveResponse hs hp h
  · have ha : s.flight = some a := cmdOf_eq_access.1 hc
    -- The rows in R120's order, from SEL to FIN.
    obtain ⟨hp, rfl⟩ | ⟨hp, rfl⟩ | ⟨hp, u, hu, rfl⟩ | ⟨hp, h⟩ | ⟨hp, rfl⟩ | ⟨hp, rfl⟩ | ⟨hp, h⟩ | ⟨hp, -, h⟩
      | ⟨hp, -, h⟩ | ⟨hp, -, hread, h⟩ | ⟨hp, -, hread, h⟩ | ⟨hp, -, -, -, h⟩ | ⟨hp, rfl⟩ := hrow
    · exact inv_rowSel hs ha hp
    · exact inv_rowMrcmp hs ha hp
    · exact inv_rowMrOpc hs ha hp hu
    · exact inv_rowMrVal hs ha hp h
    · exact inv_rowMrDesel hs ha hp
    · exact inv_rowMrResel hs ha hp
    · exact inv_rowDirb hs ha hp h
    · exact inv_rowAddr hs ha hp h
    · exact inv_rowDataLd hs ha hp h
    · exact inv_rowDataXWrite hs ha hp hread h
    · exact inv_rowDataXRead hs ha hp hread h
    · exact inv_rowDataSt hs ha hp h
    · exact inv_rowFin hs hp

/-- Nothing configured, nothing in flight and the line deasserted, after whatever events (R215). -/
theorem inv_coreReset (hs : Inv s) : Inv (coreReset s) where
  cfg := rfl
  cache := rfl
  line := rfl
  trace := by
    rw [coreReset_trace, List.append_cons]
    cases hcs : s.csAct with
    | true =>
      have hreset := inv_trace_append (e := .reset) hs hcs rfl
      exact lineAfter_append (hreset.trans (by rw [hcs])) rfl
    | false =>
      have hreset := inv_trace_append (e := .reset) hs hcs rfl
      simpa [hcs, State.reset] using hreset
  flight := flightLegal_of_idle rfl
  mem := (Device.Evolves.coreReset s).wf hs.mem

theorem inv_accept (cw : CmdWord) (hs : Inv s) (hp : s.ph = .idle) : Inv (accept cw s) := by
  have hcs : s.csAct = false := hs.line.trans (by rw [hp]; rfl)
  have htr := inv_trace_append (e := .accept cw) hs hcs rfl
  exact ⟨hs.cfg, hs.cache, hcs, htr, flightLegal_of_idle rfl, hs.mem⟩

theorem keptInFlight_inv : KeptInFlight Inv where
  hand b _ _ _ hs := ⟨hs.cfg, hs.cache, hs.line, hs.trace, hs.flight, Device.byte_wf hs.mem b⟩
  fetchWord _ _ hs := ⟨hs.cfg, hs.cache, hs.line, hs.trace, hs.flight, hs.mem⟩
  accept cw _ hp hs := inv_accept cw hs hp
  advance _ _ hs h := inv_advance hs h
  wait _ hs := ⟨hs.cfg, hs.cache, hs.line, hs.trace, hs.flight, hs.mem⟩
  reset _ hs := inv_coreReset hs

end

/-- Settles O43: every move keeps the invariant when the FSM runs the command in CUR, so a step does. -/
theorem stepKeepsTheInvariant : Obligations.StepKeepsTheInvariant := by
  unfold Obligations.StepKeepsTheInvariant
  intro s t hs h
  exact keptInFlight_inv.of_step hs h

end Sys2Proof.Machine
end

section
/-! The mode cache and the reference device's mode register, row by row of the FSM (R25, R104, R219), and O47. -/

namespace Sys2Proof.Machine

open Sys2Proof Sys2Proof.Safety

/-! ### Where the frame parser stands, phase by phase -/

section

variable {s : State}

theorem frameFits_closed (hp : s.ph ∈ [Phase.idle, .check, .sel, .mrResel, .rsp]) :
    frameFits s = true ↔ s.dev.frame = .closed := by
  unfold frameFits
  simp only [List.mem_cons, List.not_mem_nil, or_false] at hp
  obtain hp | hp | hp | hp | hp := hp
  all_goals rw [hp]; cases s.dev.frame <;> simp

theorem frameFits_start (hp : s.ph ∈ [Phase.mrcmp, .mrOpc, .dirb]) :
    frameFits s = true ↔ s.dev.frame = .start := by
  unfold frameFits
  simp only [List.mem_cons, List.not_mem_nil, or_false] at hp
  obtain hp | hp | hp := hp
  all_goals rw [hp]; cases s.dev.frame <;> simp

theorem frameFits_mrVal (hp : s.ph = .mrVal) : frameFits s = true ↔ s.dev.frame = .modeVal := by
  unfold frameFits
  rw [hp]; cases s.dev.frame <;> simp

theorem frameFits_mrDesel (hp : s.ph = .mrDesel) : frameFits s = true ↔ s.dev.frame = .modeDone := by
  unfold frameFits
  rw [hp]; cases s.dev.frame <;> simp

/-- In ADDR no byte of a frame without a direction byte has gone, or AI more address bytes come after the next. -/
theorem frameFits_addr {a : Access} (ha : s.flight = some a) (hp : s.ph = .addr) :
    frameFits s = true ↔
      (s.dev.frame = .start ∧ usesDir a s.dirOpcodeMulti = false)
        ∨ ∃ read x, s.dev.frame = .addr read (s.ai.toNat + 1) x := by
  have ha' : accessOf (decodeCmd s.cur) = some a := ha
  unfold frameFits
  rw [hp, ha']; cases s.dev.frame <;> simp

theorem frameFits_data (hp : s.ph ∈ [Phase.dataLd, .dataX, .dataSt, .fin]) :
    frameFits s = true ↔ ∃ read x j, s.dev.frame = .data read x j := by
  unfold frameFits
  simp only [List.mem_cons, List.not_mem_nil, or_false] at hp
  obtain hp | hp | hp | hp := hp
  all_goals rw [hp]; cases s.dev.frame <;> simp

end

/-! ### What a byte does to an unmarked device -/

section

variable {d : Device}

/-- The byte 0x01 at the start of a frame opens a mode-write frame (R63). -/
theorem byte_insWrmr (hb : d.bad = false) (hf : d.frame = .start) :
    (d.byte Config.insWrmr).2 = { d with frame := .modeVal } := by
  simp [Device.byte, hb, hf, Device.instruction, decodeDev]

/-- A mode byte of R63 becomes DMODE. -/
theorem byte_modeVal {tx : Byte} {mode : Mode} (hb : d.bad = false) (hf : d.frame = .modeVal)
    (htx : modeOfByte tx = some mode) : (d.byte tx).2 = { d with dmode := .written tx, frame := .modeDone } := by
  simp [Device.byte, hb, hf, Device.modeWrite, htx]

/-- The direction byte at the start of a frame opens a data frame of the device's own address width (R64). -/
theorem byte_dirByte (a : Access) (hb : d.bad = false) (hf : d.frame = .start) :
    (d.byte (dirByte a)).2 = { d with frame := .addr a.read d.addrBytes 0 } := by
  unfold dirByte
  cases a.read <;>
    simp [Device.byte, hb, hf, Device.instruction, decodeDev, Config.insWrmr, Config.insWrite, Config.insRead]

theorem byte_addr {tx : Byte} {read : Bool} {left x : Nat} (hb : d.bad = false) (hf : d.frame = .addr read left x) :
    (d.byte tx).2 = { d with
      frame :=
        if left ≤ 1 then .data read (x * 256 + tx.toNat) 0 else .addr read (left - 1) (x * 256 + tx.toNat) } := by
  simp [Device.byte, hb, hf]

/-- A data byte marks the device, or leaves DMODE and the data frame open (R64). -/
theorem byte_data {tx : Byte} {read : Bool} {x j : Nat} (hb : d.bad = false) (hf : d.frame = .data read x j)
    (hgood : (d.byte tx).2.bad = false) :
    (d.byte tx).2.dmode = d.dmode ∧ (d.byte tx).2.frame = .data read x (j + 1) := by
  have hbyte : d.byte tx = d.dataByte read x j tx := by simp [Device.byte, hb, hf]
  rw [hbyte] at hgood ⊢
  obtain ⟨-, h⟩ | ⟨y, -, -, h⟩ | ⟨y, -, -, h⟩ := d.dataByte_cases read x j tx
  · simp [h] at hgood
  · rw [h]; exact ⟨rfl, rfl⟩
  · rw [h]; exact ⟨rfl, rfl⟩

/-- A byte of a data frame leaves the device unmarked only in a frame that it understands (R67, R222). -/
theorem frameByte_unmarked {dir addr3 : Bool} {tx : Byte} (h : (frameByte dir addr3 tx d).bad = false) :
    dir = true ∧ addrBytes addr3 = d.addrBytes ∧ frameByte dir addr3 tx d = (d.byte tx).2 := by
  unfold frameByte at h ⊢
  split_ifs at h ⊢ with hdir hwidth
  · simp [Device.byte_bad_of_bad (d.misframe_keeps tx).1] at h
  · simp [Device.byte_bad_of_bad d.fail_bad] at h
  · exact ⟨by simpa using hdir, by simpa using hwidth, rfl⟩

/-- The end of a frame leaves DMODE as it is, unless the mode byte is missing (R216). -/
theorem deselect_dmode (hf : d.frame ≠ .modeVal) : d.deselect.dmode = d.dmode := by
  unfold Device.deselect
  split
  · simp
  · next h => exact absurd h hf
  all_goals rfl

end

/-! ### The rows of R120 -/

/-- A valid mode cache is the mode register of the device, which stands where the phase says (R25). -/
structure Mirrors (s : State) : Prop where
  mode : s.mcV = true → s.dev.dmode = .written s.mcVal
  frame : frameFits s = true

section

variable {a : Access} {s t : State} {b : Bus} {d : Device}

theorem mirrors_rowCheck {c : Cmd} (hs : Inv s) (hm : Mirrors s) (hp : s.ph = .check) : Mirrors (rowCheck c s) := by
  have hcs : s.csAct = false := hs.line.trans (by rw [hp]; rfl)
  have hf := (frameFits_closed (by simp [hp])).1 hm.frame
  obtain ⟨st, h⟩ | ⟨-, -, h⟩ | ⟨a, -, -, h⟩ := rowCheck_eq c s
  · rw [h]
    exact ⟨hm.mode, Iff.mpr (frameFits_closed (by simp)) hf⟩
  · rw [h, doInit_of_deasserted hcs]
    exact ⟨fun hv => (by cases hv), Iff.mpr (frameFits_closed (by simp)) hf⟩
  · rw [h]
    exact ⟨hm.mode, Iff.mpr (frameFits_closed (by simp)) hf⟩

theorem mirrors_giveResponse (hm : Mirrors s) (hp : s.ph = .rsp) (h : giveResponse s = some t) : Mirrors t := by
  have hf := (frameFits_closed (by simp [hp])).1 hm.frame
  obtain ⟨r, -, rfl⟩ := giveResponse_cases h
  exact ⟨hm.mode, Iff.mpr (frameFits_closed (by simp)) hf⟩

theorem mirrors_rowSel (hs : Inv s) (hm : Mirrors s) (hbus : s.bus = .device) (hp : s.ph = .sel) :
    Mirrors ((csAssert s).goto .mrcmp) := by
  have hcs : s.csAct = false := hs.line.trans (by rw [hp]; rfl)
  obtain ⟨d, hd, h⟩ := csAssert_reached hcs
  obtain rfl := hd.dev hbus
  rw [h]
  exact ⟨hm.mode, Iff.mpr (frameFits_start (by simp)) rfl⟩

/-- At the start of the data frame the device expects its first byte. -/
theorem frameFits_afterMode (ha : t.flight = some a) (hp : t.ph = afterMode a t) (hf : t.dev.frame = .start) :
    frameFits t = true := by
  unfold afterMode at hp
  split at hp
  · exact (frameFits_start (by simp [hp])).2 hf
  · next hdir => exact (frameFits_addr ha hp).2 (.inl ⟨hf, by simpa using hdir⟩)

theorem mirrors_rowMrcmp (hm : Mirrors s) (ha : s.flight = some a) (hp : s.ph = .mrcmp) : Mirrors (rowMrcmp a s) := by
  have hf := (frameFits_start (by simp [hp])).1 hm.frame
  obtain ⟨-, -, h⟩ | ⟨-, h⟩ := rowMrcmp_eq a s
  · rw [h]
    exact ⟨hm.mode, frameFits_afterMode (a := a) ha rfl hf⟩
  · rw [h]
    exact ⟨hm.mode, Iff.mpr (frameFits_start (by simp)) hf⟩

theorem mirrors_rowMrOpc (hm : Mirrors s) (hbus : s.bus = .device) (hbad : s.dev.bad = false) (hp : s.ph = .mrOpc)
    (h : sendByte Config.insWrmr s = some t) : Mirrors (t.goto .mrVal) := by
  have hf := (frameFits_start (by simp [hp])).1 hm.frame
  obtain ⟨b, d, hd, rfl⟩ := sendByte_reached h
  obtain rfl := (hd.dev hbus).trans (byte_insWrmr hbad hf)
  exact ⟨hm.mode, Iff.mpr (frameFits_mrVal rfl) rfl⟩

/-- R63, R108: the requested mode byte becomes DMODE and the cached mode in one move. -/
theorem mirrors_rowMrVal (hs : Inv s) (hm : Mirrors s) (hbus : s.bus = .device) (hbad : s.dev.bad = false)
    (ha : s.flight = some a) (hp : s.ph = .mrVal) (h : rowMrVal s = some t) : Mirrors t := by
  obtain ⟨⟨-, -, -, hreq⟩, -⟩ := inv_inFlight hs ha (by rw [hp]; rfl)
  have hmode : modeOfByte s.m = some (modeOf a) := hreq ▸ modeOfByte_requestedMode a s.cfgHoldEn
  have hf := (frameFits_mrVal hp).1 hm.frame
  obtain ⟨b, d, hd, rfl⟩ := rowMrVal_eq h
  obtain rfl := (hd.dev hbus).trans (byte_modeVal hbad hf hmode)
  exact ⟨fun _ => rfl, Iff.mpr (frameFits_mrDesel rfl) rfl⟩

theorem mirrors_rowMrDesel (hs : Inv s) (hm : Mirrors s) (hbus : s.bus = .device) (hp : s.ph = .mrDesel) :
    Mirrors ((csDeassert s).goto .mrResel) := by
  have hcs : s.csAct = true := hs.line.trans (by rw [hp]; rfl)
  have hf := (frameFits_mrDesel hp).1 hm.frame
  obtain ⟨d, hd, h⟩ := csDeassert_reached hcs
  obtain rfl := hd.dev hbus
  rw [h]
  exact ⟨fun hv => (deselect_dmode (by simp [hf])).trans (hm.mode hv),
    Iff.mpr (frameFits_closed (by simp)) s.dev.deselect_frame⟩

theorem mirrors_rowMrResel (hs : Inv s) (hm : Mirrors s) (hbus : s.bus = .device) (ha : s.flight = some a)
    (hp : s.ph = .mrResel) : Mirrors (rowMrResel a s) := by
  have hcs : s.csAct = false := hs.line.trans (by rw [hp]; rfl)
  obtain ⟨d, hd, h⟩ := csAssert_reached hcs
  obtain rfl := hd.dev hbus
  rw [rowMrResel, h]
  exact ⟨hm.mode, frameFits_afterMode (a := a) ha rfl rfl⟩

/-- R29, R64: the device expects as many address bytes as the CORE is about to send. -/
theorem mirrors_rowDirb (hs : Inv s) (hm : Mirrors s) (hbus : s.bus = .device) (hbad : s.dev.bad = false)
    (ha : s.flight = some a) (hp : s.ph = .dirb) (h : rowDirb a s = some t) (hgood : t.dev.bad = false) :
    Mirrors t := by
  obtain ⟨-, hfits⟩ := inv_inFlight hs ha (by rw [hp]; rfl)
  obtain ⟨-, -, hai⟩ := (phaseFits_dirb hp).1 hfits
  have hf := (frameFits_start (by simp [hp])).1 hm.frame
  obtain ⟨b, d, hd, rfl⟩ := rowDirb_eq h
  have hbyte := hd.dev hbus
  obtain ⟨-, hwidth, he⟩ := frameByte_unmarked (hbyte ▸ hgood)
  obtain rfl := hbyte.trans (he.trans (byte_dirByte a hbad hf))
  have hleft : s.dev.addrBytes = s.ai.toNat + 1 := by rw [← hwidth, hai, firstAddrIndex_toNat]
  exact ⟨hm.mode, Iff.mpr (frameFits_addr (a := a) ha rfl)
    (.inr ⟨a.read, 0, congrArg (Frame.addr a.read · 0) hleft⟩)⟩

/-- A frame without a direction byte is marked at its first byte; in another one each address byte leaves one less to
come, and the last opens the data (R64, R67). -/
theorem mirrors_rowAddr (hm : Mirrors s) (hbus : s.bus = .device) (hbad : s.dev.bad = false)
    (ha : s.flight = some a) (hp : s.ph = .addr) (h : rowAddr a s = some t) (hgood : t.dev.bad = false) :
    Mirrors t := by
  obtain ⟨b, d, hd, ht⟩ := rowAddr_eq h
  have hbyte := hd.dev hbus
  have hdgood : d.bad = false := by obtain ⟨-, rfl⟩ | ⟨-, rfl⟩ := ht <;> exact hgood
  obtain ⟨hdir, -, he⟩ := frameByte_unmarked (hbyte ▸ hdgood)
  obtain ⟨-, hnodir⟩ | ⟨read, x, hf⟩ := (frameFits_addr ha hp).1 hm.frame
  · simp [hdir] at hnodir
  · obtain rfl := hbyte.trans (he.trans (byte_addr hbad hf))
    obtain ⟨hai, rfl⟩ | ⟨hai, rfl⟩ := ht
    · have hlast : s.ai.toNat + 1 ≤ 1 := by simp [hai]
      have hphase : (if a.read then .dataX else .dataLd) ∈ [Phase.dataLd, .dataX, .dataSt, .fin] := by
        cases a.read <;> simp
      exact ⟨hm.mode, Iff.mpr (frameFits_data hphase) ⟨read, _, 0, if_pos hlast⟩⟩
    · have hpred := toNat_pred hai
      have hmore : ¬ s.ai.toNat + 1 ≤ 1 := by omega
      have hleft : s.ai.toNat + 1 - 1 = (s.ai - 1).toNat + 1 := by omega
      exact ⟨hm.mode, Iff.mpr (frameFits_addr (a := a) ha hp)
        (.inr ⟨read, _, (if_neg hmore).trans (congrArg (Frame.addr read · _) hleft)⟩)⟩

/-- A byte of the data phase leaves DMODE, and the data frame open (R64). -/
theorem reached_dataByte {tx : Byte} {dir addr3 : Bool} (hbus : s.bus = .device) (hbad : s.dev.bad = false)
    (hf : ∃ read x j, s.dev.frame = .data read x j) (hd : Reached (frameByte dir addr3 tx) s.bus s.dev b d)
    (hgood : d.bad = false) : d.dmode = s.dev.dmode ∧ ∃ read x j, d.frame = .data read x j := by
  obtain ⟨read, x, j, hf⟩ := hf
  have hbyte := hd.dev hbus
  obtain ⟨-, -, he⟩ := frameByte_unmarked (hbyte ▸ hgood)
  obtain rfl := hbyte.trans he
  obtain ⟨hmode, hframe⟩ := byte_data hbad hf hgood
  exact ⟨hmode, read, x, j + 1, hframe⟩

theorem mirrors_rowDataLd (hm : Mirrors s) (hp : s.ph = .dataLd) (h : rowDataLd a s = some t) : Mirrors t := by
  have hf := (frameFits_data (by simp [hp])).1 hm.frame
  obtain ⟨-, rfl⟩ | ⟨-, e, rest, -, rfl⟩ := rowDataLd_eq h
  · exact ⟨hm.mode, Iff.mpr (frameFits_data (by simp)) hf⟩
  · exact ⟨hm.mode, Iff.mpr (frameFits_data (by simp)) hf⟩

theorem mirrors_rowDataXWrite (hm : Mirrors s) (hbus : s.bus = .device) (hbad : s.dev.bad = false)
    (hp : s.ph = .dataX) (h : rowDataXWrite a s = some t) (hgood : t.dev.bad = false) : Mirrors t := by
  have hf := (frameFits_data (by simp [hp])).1 hm.frame
  obtain ⟨b, d, hd, ht⟩ := rowDataXWrite_eq h
  have hdgood : d.bad = false := by obtain ⟨-, rfl⟩ | ⟨-, -, rfl⟩ | ⟨-, -, rfl⟩ := ht <;> exact hgood
  obtain ⟨hmode, hframe⟩ := reached_dataByte hbus hbad hf hd hdgood
  obtain ⟨-, rfl⟩ | ⟨-, -, rfl⟩ | ⟨-, -, rfl⟩ := ht
  · exact ⟨fun hv => hmode.trans (hm.mode hv), Iff.mpr (frameFits_data (by simp [hp])) hframe⟩
  · exact ⟨fun hv => hmode.trans (hm.mode hv), Iff.mpr (frameFits_data (by simp)) hframe⟩
  · exact ⟨fun hv => hmode.trans (hm.mode hv), Iff.mpr (frameFits_data (by simp)) hframe⟩

theorem mirrors_rowDataXRead (hm : Mirrors s) (hbus : s.bus = .device) (hbad : s.dev.bad = false)
    (hp : s.ph = .dataX) (h : rowDataXRead a s = some t) (hgood : t.dev.bad = false) : Mirrors t := by
  have hf := (frameFits_data (by simp [hp])).1 hm.frame
  obtain ⟨r, b, d, hd, ht⟩ := rowDataXRead_eq h
  have hdgood : d.bad = false := by obtain ⟨-, rfl⟩ | ⟨-, -, rfl⟩ | ⟨-, -, rfl⟩ := ht <;> exact hgood
  obtain ⟨hmode, hframe⟩ := reached_dataByte hbus hbad hf hd hdgood
  obtain ⟨-, rfl⟩ | ⟨-, -, rfl⟩ | ⟨-, -, rfl⟩ := ht
  · exact ⟨fun hv => hmode.trans (hm.mode hv), Iff.mpr (frameFits_data (by simp [hp])) hframe⟩
  · exact ⟨fun hv => hmode.trans (hm.mode hv), Iff.mpr (frameFits_data (by simp)) hframe⟩
  · exact ⟨fun hv => hmode.trans (hm.mode hv), Iff.mpr (frameFits_data (by simp)) hframe⟩

theorem mirrors_rowDataSt (hm : Mirrors s) (hp : s.ph = .dataSt) (h : rowDataSt a s = some t) : Mirrors t := by
  have hf := (frameFits_data (by simp [hp])).1 hm.frame
  obtain ⟨r, -, ⟨-, rfl⟩ | ⟨-, rfl⟩⟩ := rowDataSt_eq h
  · exact ⟨hm.mode, Iff.mpr (frameFits_data (by simp)) hf⟩
  · exact ⟨hm.mode, Iff.mpr (frameFits_data (by simp)) hf⟩

theorem mirrors_rowFin (hs : Inv s) (hm : Mirrors s) (hbus : s.bus = .device) (hp : s.ph = .fin) :
    Mirrors (rowFin s) := by
  have hcs : s.csAct = true := hs.line.trans (by rw [hp]; rfl)
  obtain ⟨read, x, j, hf⟩ := (frameFits_data (by simp [hp])).1 hm.frame
  obtain ⟨d, hd, h⟩ := csDeassert_reached hcs
  obtain rfl := hd.dev hbus
  rw [rowFin, h]
  exact ⟨fun hv => (deselect_dmode (by simp [hf])).trans (hm.mode hv),
    Iff.mpr (frameFits_closed (by simp)) s.dev.deselect_frame⟩

/-! ### Every move -/

theorem mirrors_advance (hs : Inv s) (hm : Mirrors s) (hbus : s.bus = .device) (hbad : s.dev.bad = false)
    (h : advance (cmdOf (decodeCmd s.cur)) s = .go t) (hgood : t.dev.bad = false) : Mirrors t := by
  obtain ⟨hp, rfl⟩ | ⟨hp, h⟩ | ⟨a, hc, hrow⟩ := advance_cases h
  · exact mirrors_rowCheck hs hm hp
  · exact mirrors_giveResponse hm hp h
  · have ha : s.flight = some a := cmdOf_eq_access.1 hc
    -- The rows in R120's order, from SEL to FIN.
    obtain ⟨hp, rfl⟩ | ⟨hp, rfl⟩ | ⟨hp, u, hu, rfl⟩ | ⟨hp, h⟩ | ⟨hp, rfl⟩ | ⟨hp, rfl⟩ | ⟨hp, h⟩ | ⟨hp, -, h⟩
      | ⟨hp, -, h⟩ | ⟨hp, -, -, h⟩ | ⟨hp, -, -, h⟩ | ⟨hp, -, -, -, h⟩ | ⟨hp, rfl⟩ := hrow
    · exact mirrors_rowSel hs hm hbus hp
    · exact mirrors_rowMrcmp hm ha hp
    · exact mirrors_rowMrOpc hm hbus hbad hp hu
    · exact mirrors_rowMrVal hs hm hbus hbad ha hp h
    · exact mirrors_rowMrDesel hs hm hbus hp
    · exact mirrors_rowMrResel hs hm hbus ha hp
    · exact mirrors_rowDirb hs hm hbus hbad ha hp h hgood
    · exact mirrors_rowAddr hm hbus hbad ha hp h hgood
    · exact mirrors_rowDataLd hm hp h
    · exact mirrors_rowDataXWrite hm hbus hbad hp h hgood
    · exact mirrors_rowDataXRead hm hbus hbad hp h hgood
    · exact mirrors_rowDataSt hm hp h
    · exact mirrors_rowFin hs hm hbus hp

theorem mirrors_accept (cw : CmdWord) (hm : Mirrors s) (hp : s.ph = .idle) : Mirrors (accept cw s) := by
  have hf := (frameFits_closed (by simp [hp])).1 hm.frame
  exact ⟨hm.mode, Iff.mpr (frameFits_closed (by simp)) hf⟩

/-- Where the line is deasserted the device has no frame open (R102). -/
theorem frame_closed_of_deselected (hp : selectedPhase s.ph = false) (h : frameFits s = true) :
    s.dev.frame = .closed := by
  have hph : s.ph = .reserved ∨ s.ph ∈ [Phase.idle, .check, .sel, .mrResel, .rsp] := by
    cases hph : s.ph <;> simp [hph, selectedPhase] at hp ⊢
  obtain hph | hph := hph
  · simp [frameFits, hph] at h
  · exact (frameFits_closed hph).1 h

/-- A reset ends the open frame, and leaves no valid mode cache (R215, R216). -/
theorem mirrors_coreReset (hs : Inv s) (hm : Mirrors s) (hbus : s.bus = .device) : Mirrors (coreReset s) := by
  refine ⟨fun hv => (by cases hv), Iff.mpr (frameFits_closed (by simp [State.reset])) ?_⟩
  rw [coreReset_dev, State.onDevice_of_device hbus]
  show (cutDevice s s.dev).frame = .closed
  unfold cutDevice
  split
  · exact Device.deselect_frame _
  · next hcs =>
    obtain ⟨-, -, hwrite, -, -⟩ := cutWrite_keeps s (cutInstruction s s.dev)
    obtain ⟨-, -, hbyte, -⟩ := cutInstruction_keeps s s.dev
    rw [hwrite, hbyte]
    exact frame_closed_of_deselected (hs.line.symm.trans (by simpa using hcs)) hm.frame

/-- The mirror is claimed where the reference device is attached, unmarked and given nothing by hand. -/
theorem cacheMirrorsDevice_iff :
    CacheMirrorsDevice s ↔ s.wire = [] ∧ (s.bus = .device → s.dev.bad = false → Mirrors s) :=
  ⟨fun h => ⟨h.noHand, fun hbus hbad => ⟨h.mode hbus hbad, h.frame hbus hbad⟩⟩,
    fun ⟨hwire, h⟩ => ⟨hwire, fun hbus hbad => (h hbus hbad).mode, fun hbus hbad => (h hbus hbad).frame⟩⟩

/-- A move to t that keeps wire and BUS and clears no mark has the mirror to show for an unmarked device only. -/
theorem cacheMirrors_of_move (hm : CacheMirrorsDevice s) (hwire : t.wire = s.wire)
    (hbus : t.bus = .device ↔ s.bus = .device) (hdev : s.dev.Evolves t.dev)
    (h : s.bus = .device → s.dev.bad = false → t.dev.bad = false → Mirrors s → Mirrors t) : CacheMirrorsDevice t := by
  obtain ⟨hw, hm⟩ := cacheMirrorsDevice_iff.1 hm
  refine cacheMirrorsDevice_iff.2 ⟨hwire.trans hw, fun hb hgood => ?_⟩
  exact h (hbus.1 hb) (hdev.unmarked hgood) hgood (hm (hbus.1 hb) (hdev.unmarked hgood))

theorem keptInFlight_cacheMirror : KeptInFlight fun s => Inv s ∧ CacheMirrorsDevice s where
  hand _ _ _ hw hs := absurd hs.2.noHand hw
  fetchWord s rest hs :=
    ⟨keptInFlight_inv.fetchWord s rest hs.1,
      cacheMirrors_of_move hs.2 rfl Iff.rfl (.refl _) fun _ _ _ hm => ⟨hm.mode, hm.frame⟩⟩
  accept cw s hp hs :=
    ⟨keptInFlight_inv.accept cw s hp hs.1,
      cacheMirrors_of_move hs.2 rfl Iff.rfl (.refl _) fun _ _ _ hm => mirrors_accept cw hm hp⟩
  advance s t hs h :=
    have hrow := advance_rowFrame h
    ⟨keptInFlight_inv.advance s t hs.1 h, cacheMirrors_of_move hs.2 hrow.wire hrow.bus hrow.dev
      fun hbus hbad hgood hm => mirrors_advance hs.1 hm hbus hbad h hgood⟩
  wait s hs :=
    ⟨keptInFlight_inv.wait s hs.1,
      cacheMirrors_of_move hs.2 rfl Iff.rfl (.refl _) fun _ _ _ hm => ⟨hm.mode, hm.frame⟩⟩
  reset s hs :=
    ⟨keptInFlight_inv.reset s hs.1, cacheMirrors_of_move hs.2 rfl Iff.rfl (.coreReset s)
      fun hbus _ _ hm => mirrors_coreReset hs.1 hm hbus⟩

end

/-- Settles O47: under the invariant every move keeps the mirror, so a step does. -/
theorem stepKeepsTheCacheMirror : Obligations.StepKeepsTheCacheMirror := by
  unfold Obligations.StepKeepsTheCacheMirror
  intro s t hs hm h
  exact (keptInFlight_cacheMirror.of_step ⟨hs, hm⟩ h).2

end Sys2Proof.Machine
end

section
/-! Bytes of a data word (R50): the bits of a word put together from bytes, of a word cut into bytes, and of a word
with one byte replaced; and O57. -/

namespace Sys2Proof.Machine

open Sys2Proof

theorem getLsbD_byteOf (v : Data) (j k : Nat) : (byteOf v j).getLsbD k = (decide (k < 8) && v.getLsbD (8 * j + k)) := by
  simp [byteOf]

theorem getLsbD_lowBytes (v : Data) (n k : Nat) :
    (lowBytes v n).getLsbD k = (decide (k < 32) && (decide (k < 8 * n) && v.getLsbD k)) := by
  simp [lowBytes]

/-- Bit k of a word put together from bytes is bit k mod 8 of byte k / 8. -/
theorem getLsbD_packLE (bs : List Byte) {k : Nat} (hk : k < 32) :
    (packLE bs).getLsbD k = (bs.getD (k / 8) 0).getLsbD (k % 8) := by
  induction bs generalizing k with
  | nil => simp [packLE]
  | cons b rest ih =>
    by_cases h : k < 8
    · simp [packLE, h, hk, Nat.div_eq_of_lt h, Nat.mod_eq_of_lt h]
    · have hdiv : k / 8 = (k - 8) / 8 + 1 := by omega
      have hmod : k % 8 = (k - 8) % 8 := by omega
      have hb : b.getLsbD k = false := BitVec.getLsbD_of_ge b k (by omega)
      rw [hdiv, hmod, List.getD_cons_succ, ← ih (by omega)]
      simp only [packLE, BitVec.getLsbD_or, BitVec.getLsbD_shiftLeft, BitVec.getLsbD_setWidth]
      simp [h, hk, hb]

@[simp] theorem length_unpackLE (v : Data) (n : Nat) : (unpackLE v n).length = n := by
  simp [unpackLE]

theorem getD_unpackLE (v : Data) (n j : Nat) : (unpackLE v n).getD j 0 = if j < n then byteOf v j else 0 := by
  by_cases h : j < n
  · simp [unpackLE, List.getD_eq_getElem?_getD, h]
  · simp [unpackLE, List.getD_eq_getElem?_getD, h]

/-- A word cut into n bytes and put together again is its low n bytes. -/
theorem packLE_unpackLE (v : Data) (n : Nat) : packLE (unpackLE v n) = lowBytes v n := by
  apply BitVec.eq_of_getLsbD_eq
  intro k hk
  rw [getLsbD_packLE _ hk, getD_unpackLE, getLsbD_lowBytes]
  by_cases h : k < 8 * n
  · have hj : k / 8 < n := by omega
    rw [if_pos hj, getLsbD_byteOf, Nat.div_add_mod]
    simp [h, hk, Nat.mod_lt]
  · have hj : ¬ k / 8 < n := by omega
    simp [hj, h]

/-- Byte j of a word put together from at most four bytes. -/
theorem byteOf_packLE {bs : List Byte} (hlen : bs.length ≤ 4) {j : Nat} (hj : j < bs.length) :
    byteOf (packLE bs) j = bs[j] := by
  apply BitVec.eq_of_getLsbD_eq
  intro k hk
  have hdiv : (8 * j + k) / 8 = j := by omega
  have hmod : (8 * j + k) % 8 = k := by omega
  rw [getLsbD_byteOf, getLsbD_packLE _ (by omega), hdiv, hmod]
  simp [hk, List.getD_eq_getElem?_getD, hj]

/-- At most four bytes put together and cut again are the same bytes. -/
theorem unpackLE_packLE {bs : List Byte} (hlen : bs.length ≤ 4) : unpackLE (packLE bs) bs.length = bs := by
  apply List.ext_getElem (length_unpackLE _ _)
  intro j _ hj
  simpa [unpackLE] using byteOf_packLE hlen hj

theorem unpackLE_four (v : Data) : unpackLE v 4 = [byteOf v 0, byteOf v 1, byteOf v 2, byteOf v 3] := rfl

/-- A word is its four bytes, the first least significant. -/
theorem packLE_four (b0 b1 b2 b3 : Byte) : packLE [b0, b1, b2, b3] = b3 ++ b2 ++ b1 ++ b0 := by
  have h0 : byteOf (b3 ++ b2 ++ b1 ++ b0) 0 = b0 := BitVec.extractLsb'_append_eq_right
  have h1 : byteOf (b3 ++ b2 ++ b1 ++ b0) 1 = b1 := by
    rw [byteOf, BitVec.extractLsb'_append_eq_of_le (by decide), BitVec.extractLsb'_append_eq_right]
  have h2 : byteOf (b3 ++ b2 ++ b1 ++ b0) 2 = b2 := by
    rw [byteOf, BitVec.extractLsb'_append_eq_of_le (by decide), BitVec.extractLsb'_append_eq_of_le (by decide),
      BitVec.extractLsb'_append_eq_right]
  have h3 : byteOf (b3 ++ b2 ++ b1 ++ b0) 3 = b3 := by
    rw [byteOf, BitVec.extractLsb'_append_eq_of_le (by decide), BitVec.extractLsb'_append_eq_of_le (by decide),
      BitVec.extractLsb'_append_eq_left]
  have hbytes : unpackLE (b3 ++ b2 ++ b1 ++ b0) 4 = [b0, b1, b2, b3] := by
    rw [unpackLE_four, h0, h1, h2, h3]
  have hlow : lowBytes (b3 ++ b2 ++ b1 ++ b0) 4 = b3 ++ b2 ++ b1 ++ b0 := by
    simp [lowBytes]
  rw [← hbytes, packLE_unpackLE, hlow]

/-- Settles O57, bit by bit. -/
theorem elementBytesAreLittleEndian : Obligations.ElementBytesAreLittleEndian := by
  unfold Obligations.ElementBytesAreLittleEndian
  exact ⟨fun v n _ => packLE_unpackLE v n, fun _ hlen => unpackLE_packLE hlen, fun _ => rfl, packLE_four⟩

end Sys2Proof.Machine
end

section
/-! The address sequence of the reference device (R65): O53 and O54, and where two bytes of a frame meet. -/

namespace Sys2Proof.Machine

open Sys2Proof

/-- R65's masks on a number of at most 24 bits: the page's start, and the place of a byte in it. -/
theorem page_masks {x : Nat} (y : Nat) (hx : x < 2 ^ 24) :
    x &&& (2 ^ 24 - 1 - 0x1F) ||| y &&& 0x1F = x - x % 32 + y % 32 := by
  have hstart : x &&& (2 ^ 24 - 1 - 0x1F) = 2 ^ 5 * (x / 2 ^ 5) := by
    apply Nat.eq_of_testBit_eq
    intro i
    have hhigh : ¬ i < 24 → x.testBit i = false := fun h =>
      Nat.testBit_lt_two_pow (hx.trans_le (Nat.pow_le_pow_right (by norm_num) (by omega)))
    rw [Nat.testBit_and, (by norm_num : 2 ^ 24 - 1 - 0x1F = 2 ^ 5 * (2 ^ 19 - 1)), Nat.testBit_two_pow_mul,
      Nat.testBit_two_pow_mul, Nat.testBit_two_pow_sub_one, Nat.testBit_div_two_pow]
    by_cases h5 : 5 ≤ i
    · by_cases h24 : i < 24
      · simp [h5, (by omega : i - 5 < 19)]
      · simp [h5, hhigh h24]
    · simp [h5]
  have hplace : y &&& 0x1F = y % 2 ^ 5 := Nat.and_two_pow_sub_one_eq_mod y 5
  have hor := Nat.two_pow_add_eq_or_of_lt (Nat.mod_lt y (by norm_num : 0 < 2 ^ 5)) (x / 2 ^ 5)
  rw [hstart, hplace, ← hor]
  omega

/-- Settles O53: SEQUENTIAL and BYTE are as R65 writes them, PAGE by its masks. -/
theorem addressSequenceOfEachMode : Obligations.AddressSequenceOfEachMode := by
  unfold Obligations.AddressSequenceOfEachMode
  intro cap a j hpos hcap
  have hlt : a % cap < 2 ^ 24 := (Nat.mod_lt a hpos).trans_le hcap
  refine ⟨rfl, ?_, rfl, fun hj => if_neg (by omega)⟩
  rw [page_masks _ hlt]
  rfl

/-- A page of a device whose capacity is a multiple of the page size: the page of the start, and a place in it. -/
theorem daddr_page_of_dvd {cap : Nat} (a j : Nat) (hpos : 0 < cap) (hcap : 32 ∣ cap) :
    daddr .page cap a j = some (32 * (a % cap / 32) + (a % cap + j) % 32)
      ∧ 32 * (a % cap / 32) + (a % cap + j) % 32 < cap := by
  obtain ⟨p, rfl⟩ := hcap
  have hlt : a % (32 * p) < 32 * p := Nat.mod_lt a hpos
  have hin : 32 * (a % (32 * p) / 32) + (a % (32 * p) + j) % 32 < 32 * p := by omega
  refine ⟨?_, hin⟩
  simp only [daddr, Config.pageSize, Option.some.injEq]
  rw [Nat.mod_eq_of_lt (by omega)]
  omega

theorem dvd_capBytes (kbit : Nat) : 32 ∣ capBytes kbit :=
  ⟨kbit * 4, by simp [capBytes, Config.bytesPerKbit]; omega⟩

/-- Settles O54: the page of the start lies in the device, and the place in it goes through 0 to 31. -/
theorem pageTransfersStayInTheirPage : Obligations.PageTransfersStayInTheirPage := by
  unfold Obligations.PageTransfersStayInTheirPage
  intro kbit a j j' hkbit
  have hpos : 0 < capBytes kbit := by simp [capBytes, Config.bytesPerKbit]; omega
  obtain ⟨hj, hlt⟩ := daddr_page_of_dvd a j hpos (dvd_capBytes kbit)
  obtain ⟨hj', -⟩ := daddr_page_of_dvd a j' hpos (dvd_capBytes kbit)
  obtain ⟨h0, -⟩ := daddr_page_of_dvd a 0 hpos (dvd_capBytes kbit)
  exact ⟨_, _, _, hj, hj', h0, hlt, by omega, by omega⟩

/-- The bytes of a transfer that is no longer than the device go to different addresses; a page's, up to 32. -/
theorem daddr_injective {mode : Mode} {cap a n : Nat} (hpos : 0 < cap) (hcap : 32 ∣ cap) (hn : n ≤ cap)
    (hpage : mode = .page → n ≤ 32) {j j' x : Nat} (hj : j < n) (hj' : j' < n) (h : daddr mode cap a j = some x)
    (h' : daddr mode cap a j' = some x) : j = j' := by
  cases mode with
  | byte =>
    simp only [daddr, Option.ite_none_right_eq_some] at h h'
    omega
  | sequential =>
    simp only [daddr, Option.some.injEq] at h h'
    have hmod : j ≡ j' [MOD cap] := Nat.ModEq.add_left_cancel' (a % cap) (h.trans h'.symm)
    exact Nat.ModEq.eq_of_lt_of_lt hmod (by omega) (by omega)
  | page =>
    have hn := hpage rfl
    rw [(daddr_page_of_dvd a _ hpos hcap).1, Option.some.injEq] at h h'
    omega

end Sys2Proof.Machine
end

section
/-! Frames of the reference device, byte by byte (R62 to R66): O36, O51, O52 and O55. -/

namespace Sys2Proof.Machine

open Sys2Proof Sys2Proof.Safety

/-! ### The BAD mark -/

/-- No single move clears the BAD mark (R66, R202). -/
theorem keptByMoves_bad : KeptByMoves fun s => s.dev.bad = true where
  fetchByte _ _ hs := hs
  fetchWord _ _ hs := hs
  hand b _ hs := Device.byte_bad_of_bad hs b
  accept _ _ hs := hs
  advance _ _ _ hs h := (advance_rowFrame h).dev.bad hs
  wait _ hs := hs
  reset s hs := (Device.Evolves.coreReset s).bad hs

/-- Settles O36: every single move keeps the mark, so a step does. -/
theorem theBadMarkIsNeverCleared : Obligations.TheBadMarkIsNeverCleared := by
  unfold Obligations.TheBadMarkIsNeverCleared
  intro s t h hs
  exact keptByMoves_bad.of_step hs h

/-! ### Lists of bytes -/

@[simp] theorem shiftIn_nil (d : Device) : shiftIn [] d = ([], d) := rfl

@[simp] theorem shiftIn_cons (b : Byte) (bs : List Byte) (d : Device) :
    shiftIn (b :: bs) d = ((d.byte b).1 :: (shiftIn bs (d.byte b).2).1, (shiftIn bs (d.byte b).2).2) := rfl

theorem shiftIn_append (bs bs' : List Byte) (d : Device) :
    shiftIn (bs ++ bs') d =
      ((shiftIn bs d).1 ++ (shiftIn bs' (shiftIn bs d).2).1, (shiftIn bs' (shiftIn bs d).2).2) := by
  induction bs generalizing d with
  | nil => rfl
  | cons b bs ih => simp [ih]

@[simp] theorem length_shiftIn (bs : List Byte) (d : Device) : (shiftIn bs d).1.length = bs.length := by
  induction bs generalizing d with
  | nil => rfl
  | cons b bs ih => simp [ih]

theorem Device.Evolves.shiftIn (bs : List Byte) (d : Device) : d.Evolves (shiftIn bs d).2 := by
  induction bs generalizing d with
  | nil => exact .refl d
  | cons b bs ih => exact (Device.Evolves.byte d b).trans (ih _)

/-! ### The mode-write frame (R63) -/

section

variable {d : Device}

theorem byte_insWrmr_frame (hf : d.frame = .start) : (d.byte Config.insWrmr).2.frame = .modeVal := by
  cases hb : d.bad with
  | true => simp [Device.byte_of_bad hb, Device.follow, hf]
  | false => rw [byte_insWrmr hb hf]

/-- The byte after 0x01 becomes DMODE, on a marked device too. -/
theorem byte_modeVal_dmode (hf : d.frame = .modeVal) (b : Byte) :
    (d.byte b).2.dmode = .written b ∧ (d.byte b).2.frame = .modeDone := by
  cases hb : d.bad with
  | true => simp [Device.byte_of_bad hb, Device.follow, hf]
  | false =>
    have hbyte : d.byte b = d.modeWrite b := by simp [Device.byte, hb, hf]
    rw [hbyte]
    refine ⟨d.modeWrite_dmode b, ?_⟩
    unfold Device.modeWrite
    split <;> rfl

/-- A mode byte that is no mode of R63 marks the device. -/
theorem byte_modeVal_bad {b : Byte} (hb : d.bad = false) (hf : d.frame = .modeVal) (hmode : modeOfByte b = none) :
    (d.byte b).2.bad = true := by
  simp [Device.byte, hb, hf, Device.modeWrite, hmode]

/-- A byte after the mode byte leaves DMODE and marks the device. -/
theorem byte_modeDone (hf : d.frame = .modeDone) (b : Byte) :
    (d.byte b).2.dmode = d.dmode ∧ (d.byte b).2.bad = true := by
  cases hb : d.bad with
  | true => exact ⟨by simp [Device.byte_of_bad hb, Device.follow, hf], Device.byte_bad_of_bad hb b⟩
  | false => simp [Device.byte, hb, hf]

/-- A mode-write frame of one of R63's modes sets DMODE and nothing else. -/
theorem shiftIn_modeFrame {b : Byte} {mode : Mode} (hb : d.bad = false) (hf : d.frame = .start)
    (hmode : modeOfByte b = some mode) :
    shiftIn [Config.insWrmr, b] d = ([0x00, 0x00], { d with dmode := .written b, frame := .modeDone }) := by
  have hopen : d.byte Config.insWrmr = (0x00, { d with frame := .modeVal }) := by
    simp [Device.byte, hb, hf, Device.instruction, decodeDev]
  have hval : Device.byte { d with frame := .modeVal } b =
      (0x00, { d with dmode := .written b, frame := .modeDone }) := by
    simp [Device.byte, hb, Device.modeWrite, hmode]
  simp [hopen, hval]

end

theorem modeOfByte_byte {b : Byte} (h : b &&& 0xFE = 0x00) : modeOfByte b = some .byte := if_pos h

theorem modeOfByte_sequential {b : Byte} (h : b &&& 0xFE = 0x40) : modeOfByte b = some .sequential := by
  unfold modeOfByte; rw [h]; decide

theorem modeOfByte_page {b : Byte} (h : b &&& 0xFE = 0x80) : modeOfByte b = some .page := by
  unfold modeOfByte; rw [h]; decide

theorem modeOfByte_none {b : Byte} (h : ¬ (b &&& 0xFE = 0x00 ∨ b &&& 0xFE = 0x40 ∨ b &&& 0xFE = 0x80)) :
    modeOfByte b = none := by
  obtain ⟨hbyte, hseq, hpage⟩ := not_or.1 h |>.imp_right not_or.1
  exact (if_neg hbyte).trans ((if_neg hseq).trans (if_neg hpage))

/-- Settles O51: the frame's two bytes one after the other, and a third. -/
theorem modeWriteFrameWritesDmode : Obligations.ModeWriteFrameWritesDmode := by
  unfold Obligations.ModeWriteFrameWritesDmode
  refine ⟨fun d b x hf => ?_, fun d b hb hf =>
    ⟨fun h => ?_, modeOfByte_byte, modeOfByte_sequential, modeOfByte_page, fun h => ?_⟩⟩
  · obtain ⟨hmode, hdone⟩ := byte_modeVal_dmode (byte_insWrmr_frame hf) b
    obtain ⟨hkept, hbad⟩ := byte_modeDone hdone x
    exact ⟨hmode, hkept.trans hmode, hbad⟩
  · obtain ⟨mode, hmode⟩ : ∃ mode, modeOfByte b = some mode := by
      obtain h | h | h := h
      · exact ⟨_, modeOfByte_byte h⟩
      · exact ⟨_, modeOfByte_sequential h⟩
      · exact ⟨_, modeOfByte_page h⟩
    have hframe := shiftIn_modeFrame hb hf hmode
    exact ⟨congrArg Prod.fst hframe, congrArg Prod.snd hframe⟩
  · have hopen := byte_insWrmr hb hf
    have hgood : (d.byte Config.insWrmr).2.bad = false := by rw [hopen]; exact hb
    exact byte_modeVal_bad hgood (byte_insWrmr_frame hf) (modeOfByte_none h)

/-! ### What marks the device (R66) -/

section

variable {d : Device}

theorem byte_unknown_bad {b : Byte} (hb : d.bad = false) (hf : d.frame = .start) (h : decodeDev b = none) :
    (d.byte b).2.bad = true := by
  simp [Device.byte, hb, hf, Device.instruction, h]

/-- In BYTE mode a frame has one data byte. -/
theorem byte_second_data_bad {b : Byte} {read : Bool} {a j : Nat} (hb : d.bad = false) (hf : d.frame = .data read a j)
    (hj : 1 ≤ j) (hmode : modeOfByte d.modeByte = some .byte) : (d.byte b).2.bad = true := by
  have htarget : d.target a j = none := by
    simp [Device.target, hmode, daddr, Nat.ne_of_gt hj]
  simp [Device.byte, hb, hf, Device.dataByte, htarget]

theorem deselect_addr_bad {read : Bool} {left a : Nat} (hf : d.frame = .addr read left a) : d.deselect.bad = true := by
  simp [Device.deselect, hf]

theorem byte_rdmr {b : Byte} (hb : d.bad = false) (hf : d.frame = .rdmr) : d.byte b = (d.modeByte, d) := by
  simp [Device.byte, hb, hf]

end

/-- Settles O55: the marking bytes by the frame they come in, and a marked device by what a byte still does on it. -/
theorem whatMarksTheDeviceBad : Obligations.WhatMarksTheDeviceBad := by
  unfold Obligations.WhatMarksTheDeviceBad
  refine ⟨fun d b hb => ⟨byte_unknown_bad hb, fun _ _ _ hf => byte_second_data_bad hb hf,
    fun _ _ _ => deselect_addr_bad, byte_rdmr hb⟩, fun d b hb => ?_⟩
  obtain ⟨-, -, hcap, hdraws⟩ := d.draw.2.follow_keeps b
  have hmode := d.draw.2.follow_dmode b
  refine ⟨?_, ?_, Device.byte_bad_of_bad hb b, ?_, d.byte_capKbit b, hb, Device.deselect_bad_of_bad hb,
    fun x => if_pos hb⟩
  · rw [Device.byte_of_bad hb]; rfl
  · rw [Device.byte_of_bad hb]; exact hdraws
  · rw [Device.byte_of_bad hb]; exact hmode

/-! ### The address of a data frame (R64) -/

/-- The address bytes of a data frame, most significant first, and then the data follows. -/
theorem shiftIn_addr {bs : List Byte} (hbs : bs ≠ []) {read : Bool} {x : Nat} {d : Device} (hb : d.bad = false)
    (hf : d.frame = .addr read bs.length x) :
    shiftIn bs d = (List.replicate bs.length 0x00,
      { d with frame := .data read (bs.foldl (fun a b => a * 256 + b.toNat) x) 0 }) := by
  induction bs generalizing d x with
  | nil => exact absurd rfl hbs
  | cons b bs ih =>
    have hbyte : d.byte b = (0x00, { d with
        frame :=
          if bs.length + 1 ≤ 1 then .data read (x * 256 + b.toNat) 0
          else .addr read bs.length (x * 256 + b.toNat) }) := by
      simp [Device.byte, hb, hf]
    cases bs with
    | nil => simp [hbyte]
    | cons b' bs =>
      rw [if_neg (by simp)] at hbyte
      have hrest := ih (by simp) (d := (d.byte b).2) (by rw [hbyte]; exact hb) (by rw [hbyte])
      rw [shiftIn_cons, hrest, hbyte]
      simp [List.replicate_succ]

/-- Direction byte and address open the data of a frame (R64). -/
theorem shiftIn_open {d : Device} {a : Access} {addr : List Byte} (hb : d.bad = false) (hf : d.frame = .start)
    (hlen : addr.length = d.addrBytes) :
    shiftIn (dirByte a :: addr) d =
      (List.replicate (1 + d.addrBytes) 0x00, { d with frame := .data a.read (bigEndian addr) 0 }) := by
  have hne : addr ≠ [] := fun h => by
    simp only [h, List.length_nil, Device.addrBytes, Machine.addrBytes] at hlen
    split at hlen <;> cases hlen
  have hdir : d.byte (dirByte a) = (0x00, { d with frame := .addr a.read addr.length 0 }) := by
    refine Prod.ext ?_ (hlen ▸ byte_dirByte a hb hf)
    unfold dirByte
    cases a.read <;>
      simp [Device.byte, hb, hf, Device.instruction, decodeDev, Config.insWrmr, Config.insWrite, Config.insRead]
  have hrest := shiftIn_addr hne (d := (d.byte (dirByte a)).2) (by rw [hdir]; exact hb) (by rw [hdir])
  rw [shiftIn_cons, hrest, hdir, ← hlen, Nat.add_comm 1]
  rfl

/-! ### The data of a frame (R64, R65) -/

section

variable {d : Device} {mode : Mode} {data : List Byte} {x j : Nat}

/-- The bytes a device holds at the addresses of data bytes j to j + n - 1 of a frame that starts at a. -/
def heldBytes (d : Device) (mode : Mode) (a j n : Nat) : List Byte :=
  (List.range' j n).map fun i =>
    match daddr mode d.capBytes a i with
    | some x => d.read x
    | none => 0

theorem heldBytes_succ (d : Device) (mode : Mode) (a j n y : Nat) (h : daddr mode d.capBytes a j = some y) :
    heldBytes d mode a j (n + 1) = d.read y :: heldBytes d mode a (j + 1) n := by
  simp [heldBytes, List.range'_succ, h]

/-- Every data byte of a read frame returns the byte at its address and changes nothing (R55, R64). -/
theorem shiftIn_read (hb : d.bad = false) (hf : d.frame = .data true x j) (hmode : modeOfByte d.modeByte = some mode)
    (hin : ∀ i, j ≤ i → i < j + data.length → (daddr mode d.capBytes x i).isSome) :
    shiftIn data d =
      (heldBytes d mode x j data.length, { d with frame := .data true x (j + data.length) }) := by
  induction data generalizing d j with
  | nil => simp [heldBytes, ← hf]
  | cons b data ih =>
    obtain ⟨y, hy⟩ := Option.isSome_iff_exists.1 (hin j le_rfl (by simp))
    have htarget : d.target x j = some y := by simp [Device.target, hmode, hy]
    have hbyte : d.byte b = (d.read y, { d with frame := .data true x (j + 1) }) := by
      simp [Device.byte, hb, hf, Device.dataByte, htarget]
    have hrest := ih (d := { d with frame := .data true x (j + 1) }) hb rfl hmode
      fun i h h' => hin i (by omega) (by rw [List.length_cons]; omega)
    simp only [shiftIn_cons, hbyte, hrest, List.length_cons, heldBytes_succ d mode x j _ y hy, Nat.add_assoc,
      Nat.add_comm 1]
    rfl

/-- What a write of these data bytes, the first at index j, leaves in the device. -/
structure Stored (mode : Mode) (x j : Nat) (data : List Byte) (d d' : Device) : Prop where
  bad : d'.bad = false
  dmode : d'.dmode = d.dmode
  capKbit : d'.capKbit = d.capKbit
  frame : d'.frame = .data false x (j + data.length)
  /-- No other byte changes. -/
  kept : ∀ y, (∀ i, i < data.length → daddr mode d.capBytes x (j + i) ≠ some y) → d'.read y = d.read y
  /-- Each byte is at its address, where no two of them have the same. -/
  stored : (∀ i i' y, i < data.length → i' < data.length → daddr mode d.capBytes x (j + i) = some y →
      daddr mode d.capBytes x (j + i') = some y → i = i') →
    ∀ i y, i < data.length → daddr mode d.capBytes x (j + i) = some y → data[i]? = some (d'.read y)

/-- A byte stored before the others. -/
theorem Stored.cons {d₀ d' : Device} {b : Byte} {y : Nat} (hy : daddr mode d₀.capBytes x j = some y)
    (hmode : d.dmode = d₀.dmode) (hcap : d.capKbit = d₀.capKbit)
    (hread : ∀ z, d.read z = if y = z then b else d₀.read z) (h : Stored mode x (j + 1) data d d') :
    Stored mode x j (b :: data) d₀ d' := by
  have hbytes : d.capBytes = d₀.capBytes := by rw [Device.capBytes, hcap, Device.capBytes]
  have hnext (i : Nat) : j + 1 + i = j + (i + 1) := by omega
  refine ⟨h.bad, h.dmode.trans hmode, h.capKbit.trans hcap, ?_, fun z hz => ?_, fun hinj i z hi hz => ?_⟩
  · rw [h.frame, List.length_cons, hnext]
  · have hfirst : y ≠ z := fun e => hz 0 (by simp) (by rw [Nat.add_zero, hy, e])
    rw [h.kept z fun i hi => by rw [hbytes, hnext]; exact hz (i + 1) (by simpa using hi), hread, if_neg hfirst]
  · cases i with
    | zero =>
      obtain rfl : y = z := by simpa [hy] using hz
      have hlater (i : Nat) (hi : i < data.length) : daddr mode d.capBytes x (j + 1 + i) ≠ some y := fun e => by
        rw [hbytes, hnext] at e
        exact absurd (hinj 0 (i + 1) y (by simp) (by simpa using hi) hz e) (by omega)
      rw [h.kept y hlater, hread, if_pos rfl, List.getElem?_cons_zero]
    | succ i =>
      have hlater := h.stored fun i i' z hi hi' hz hz' => by
        rw [hbytes, hnext] at hz hz'
        exact Nat.succ.inj (hinj (i + 1) (i' + 1) z (by simpa using hi) (by simpa using hi') hz hz')
      exact hlater i z (by simpa using hi) (by rw [hbytes, hnext]; exact hz)

/-- Every data byte of a write frame goes to its address (R64). -/
theorem shiftIn_write (hb : d.bad = false) (hf : d.frame = .data false x j) (hmode : modeOfByte d.modeByte = some mode)
    (hin : ∀ i, j ≤ i → i < j + data.length → (daddr mode d.capBytes x i).isSome) :
    Stored mode x j data d (shiftIn data d).2 := by
  induction data generalizing d j with
  | nil =>
    exact ⟨hb, rfl, rfl, hf, fun _ _ => rfl, fun _ i _ hi => absurd hi (by simp)⟩
  | cons b data ih =>
    obtain ⟨y, hy⟩ := Option.isSome_iff_exists.1 (hin j le_rfl (by simp))
    have htarget : d.target x j = some y := by simp [Device.target, hmode, hy]
    have hbyte : (d.byte b).2 =
        { d with mem := Memory.write d.mem y b, frame := .data false x (j + 1), draws := d.draws + 1 } := by
      simp [Device.byte, hb, hf, Device.dataByte, htarget, Device.draw]
    have hread (z : Nat) : (d.byte b).2.read z = if y = z then b else d.read z := by
      rw [hbyte, Device.read_of_good (by exact hb), Device.read_of_good hb]
      split
      · next h => subst h; exact Memory.read_write_same _ _ _ _
      · next h => exact Memory.read_write_other _ _ _ h
    refine Stored.cons hy (by rw [hbyte]) (by rw [hbyte]) hread (ih ?_ ?_ ?_ fun i h h' => ?_)
    · rw [hbyte]; exact hb
    · rw [hbyte]
    · rw [hbyte]; exact hmode
    · rw [hbyte]; exact hin i (by omega) (by rw [List.length_cons]; omega)

end

/-! ### Whole data frames -/

/-- Data bytes with an address in their mode: any number, but one in BYTE mode. -/
theorem isSome_daddr {mode : Mode} {cap a n : Nat} (h : mode = .byte → n ≤ 1) :
    ∀ i, 0 ≤ i → i < 0 + n → (daddr mode cap a i).isSome := by
  intro i _ hi
  cases mode with
  | byte => simp [daddr, (by have := h rfl; omega : i = 0)]
  | sequential => rfl
  | page => rfl

section

variable {d : Device} {a : Access} {mode : Mode} {addr data : List Byte}

/-- A read frame returns zeros and then the bytes at the frame's addresses, and moves the frame parser only. -/
theorem shiftIn_readFrame (hread : a.read = true) (hb : d.bad = false) (hf : d.frame = .start)
    (hmode : modeOfByte d.modeByte = some mode) (hlen : addr.length = d.addrBytes)
    (hone : mode = .byte → data.length ≤ 1) :
    shiftIn (dirByte a :: addr ++ data) d =
      (List.replicate (1 + d.addrBytes) 0x00 ++ heldBytes d mode (bigEndian addr) 0 data.length,
        { d with frame := .data true (bigEndian addr) data.length }) := by
  have hdata := shiftIn_read (d := { d with frame := .data true (bigEndian addr) 0 }) (data := data) hb rfl hmode
    (isSome_daddr hone)
  rw [shiftIn_append, shiftIn_open hb hf hlen, hread, hdata, Nat.zero_add]
  rfl

/-- A write frame stores its data bytes. -/
theorem shiftIn_writeFrame (hread : a.read = false) (hb : d.bad = false) (hf : d.frame = .start)
    (hmode : modeOfByte d.modeByte = some mode) (hlen : addr.length = d.addrBytes)
    (hone : mode = .byte → data.length ≤ 1) :
    Stored mode (bigEndian addr) 0 data { d with frame := .data false (bigEndian addr) 0 }
      (shiftIn (dirByte a :: addr ++ data) d).2 := by
  rw [shiftIn_append, shiftIn_open hb hf hlen, hread]
  exact shiftIn_write hb rfl hmode (isSome_daddr hone)

end

/-- Settles O52: the two frames by what each of their bytes does. -/
theorem dataFrameReadsAndWritesDmem : Obligations.DataFrameReadsAndWritesDmem := by
  unfold Obligations.DataFrameReadsAndWritesDmem
  intro d m mode addr data hb hf hm hmode hlen hcap hone
  have hmode : modeOfByte d.modeByte = some mode := by rw [Device.modeByte, hm]; exact hmode
  have hpos : 0 < d.capBytes := by simp [Device.capBytes, Machine.capBytes, Config.bytesPerKbit]; omega
  have hr := shiftIn_readFrame (a := ⟨.scalar, .one, true⟩) rfl hb hf hmode hlen hone
  have hw := shiftIn_writeFrame (a := ⟨.scalar, .one, false⟩) rfl hb hf hmode hlen hone
  refine ⟨?_, congrArg Prod.snd hr, hw.bad, hw.dmode, hw.capKbit, fun x hx => ?_, fun hn hpage j x hj hx => ?_⟩
  · have hbytes := congrArg (fun p => p.1.drop (1 + d.addrBytes)) hr
    rw [List.drop_left' List.length_replicate, heldBytes, ← List.range_eq_range'] at hbytes
    exact hbytes
  · exact hw.kept x fun i hi => by rw [Nat.zero_add]; exact hx i hi
  · refine hw.stored (fun i i' y hi hi' hy hy' => ?_) j x hj (by rw [Nat.zero_add]; exact hx)
    rw [Nat.zero_add] at hy hy'
    exact daddr_injective hpos (dvd_capBytes _) hn hpage hi hi' hy hy'

end Sys2Proof.Machine
end

section
/-! The phase FSM realises the procedure TRANSACT (R118, R120): wherever the procedure completes, the FSM's moves lead
to the same state, its phase and its scratch registers apart. -/

namespace Sys2Proof.Machine

open Sys2Proof

/-! ### The moves from one state to another -/

/-- With no reset coming nothing counts down. -/
theorem passTime_of_noReset {s : State} (h : s.resetIn = none) : s.passTime = s := by
  cases s
  cases (h : _ = none)
  rfl

/-- The FSM, running the command c, comes from s to t in at most n moves. -/
def Leads (c : Cmd) (n : Nat) (s t : State) : Prop :=
  ∃ m ≤ n, ∀ l, run (l + m) c s = run l c t

namespace Leads

variable {c : Cmd} {n n' : Nat} {s t u : State}

theorem refl (c : Cmd) (s : State) : Leads c 0 s s := ⟨0, le_rfl, fun _ => rfl⟩

theorem trans (h : Leads c n s t) (h' : Leads c n' t u) : Leads c (n + n') s u := by
  obtain ⟨m, hm, h⟩ := h
  obtain ⟨m', hm', h'⟩ := h'
  exact ⟨m' + m, by omega, fun l => by rw [← Nat.add_assoc, h, h']⟩

theorem mono (h : Leads c n s t) (hn : n ≤ n') : Leads c n' s t :=
  have ⟨m, hm, h⟩ := h
  ⟨m, hm.trans hn, h⟩

/-- One row of the FSM, with no reset coming. -/
theorem of_advance (hreset : s.resetIn = none) (hidle : s.ph ≠ .idle) (h : advance c s = .go t) : Leads c 1 s t := by
  have hhalted : halted c s = false := by simp [halted, hidle, h]
  have ht : t.passTime = t := passTime_of_noReset ((advance_rowFrame h).resetIn.trans hreset)
  have htick : tick c s = .next t := by simp [tick, hreset, h, ht]
  exact ⟨1, le_rfl, fun l => run_tick hhalted htick⟩

/-- A command whose moves lead to an idle CORE ends there. -/
theorem run_of_idle (h : Leads c n s t) (hidle : t.ph = .idle) (hn : n ≤ n') : run n' c s = .next t := by
  obtain ⟨m, hm, h⟩ := h
  obtain ⟨l, rfl⟩ : ∃ l, n' = l + m := ⟨n' - m, by omega⟩
  rw [h, run_halted (by simp [halted, hidle])]

end Leads

/-! ### The sequencer's own registers -/

/-- PH and the scratch registers (R27, R29 to R33), which the procedure does not have. -/
structure Sequencer where
  ph : Phase
  ai : BitVec 2
  k : BitVec 16
  i : BitVec 2
  acc : Data
  ebuf : Data

/-- A state with these registers in its sequencer. -/
def State.withSeq (s : State) (q : Sequencer) : State :=
  { s with ph := q.ph, ai := q.ai, k := q.k, i := q.i, acc := q.acc, ebuf := q.ebuf }

/-- The registers of a state. -/
def State.seq (s : State) : Sequencer := ⟨s.ph, s.ai, s.k, s.i, s.acc, s.ebuf⟩

section

variable (s : State) (q : Sequencer)

@[simp] theorem withSeq_seq : s.withSeq s.seq = s := rfl
@[simp] theorem withSeq_withSeq (q' : Sequencer) : (s.withSeq q).withSeq q' = s.withSeq q' := rfl
@[simp] theorem withSeq_ph : (s.withSeq q).ph = q.ph := rfl
@[simp] theorem withSeq_ai : (s.withSeq q).ai = q.ai := rfl
@[simp] theorem withSeq_k : (s.withSeq q).k = q.k := rfl
@[simp] theorem withSeq_i : (s.withSeq q).i = q.i := rfl
@[simp] theorem withSeq_acc : (s.withSeq q).acc = q.acc := rfl
@[simp] theorem withSeq_ebuf : (s.withSeq q).ebuf = q.ebuf := rfl
@[simp] theorem withSeq_bus : (s.withSeq q).bus = s.bus := rfl
@[simp] theorem withSeq_dev : (s.withSeq q).dev = s.dev := rfl
@[simp] theorem withSeq_wdIn : (s.withSeq q).wdIn = s.wdIn := rfl
@[simp] theorem withSeq_rdReady : (s.withSeq q).rdReady = s.rdReady := rfl
@[simp] theorem withSeq_rspReady : (s.withSeq q).rspReady = s.rspReady := rfl
@[simp] theorem withSeq_resetIn : (s.withSeq q).resetIn = s.resetIn := rfl
@[simp] theorem withSeq_cur : (s.withSeq q).cur = s.cur := rfl
@[simp] theorem withSeq_curAddr : (s.withSeq q).curAddr = s.curAddr := rfl
@[simp] theorem withSeq_curWdata : (s.withSeq q).curWdata = s.curWdata := rfl
@[simp] theorem withSeq_m : (s.withSeq q).m = s.m := rfl
@[simp] theorem withSeq_mcV : (s.withSeq q).mcV = s.mcV := rfl
@[simp] theorem withSeq_mcVal : (s.withSeq q).mcVal = s.mcVal := rfl
@[simp] theorem withSeq_csAct : (s.withSeq q).csAct = s.csAct := rfl
@[simp] theorem withSeq_cfgAddr3 : (s.withSeq q).cfgAddr3 = s.cfgAddr3 := rfl
@[simp] theorem withSeq_dirOpcodeMulti : (s.withSeq q).dirOpcodeMulti = s.dirOpcodeMulti := rfl

/-! The operations of the procedure do not look at the registers. -/

theorem onDevice_withSeq (f : Device → Device) : (s.withSeq q).onDevice f = (s.onDevice f).withSeq q := by
  obtain ⟨rx, hb⟩ | hb := bus_cases s.bus
  · rw [State.onDevice_of_oracle hb, State.onDevice_of_oracle (by exact hb)]
  · rw [State.onDevice_of_device hb, State.onDevice_of_device (by exact hb)]
    rfl

theorem csAssert_withSeq : csAssert (s.withSeq q) = (csAssert s).withSeq q := by
  have hdev := onDevice_withSeq { s with csAct := true } q Device.select
  cases h : s.csAct with
  | true => rw [csAssert_of_asserted h, csAssert_of_asserted (by exact h)]
  | false =>
    simp only [csAssert, withSeq_csAct, h, Bool.false_eq_true, if_false]
    exact congrArg (·.emit .sel) hdev

theorem csDeassert_withSeq : csDeassert (s.withSeq q) = (csDeassert s).withSeq q := by
  have hdev := onDevice_withSeq { s with csAct := false } q Device.deselect
  cases h : s.csAct with
  | true =>
    simp only [csDeassert, withSeq_csAct, h, if_true]
    exact congrArg (·.emit .desel) hdev
  | false => rw [csDeassert_of_deasserted h, csDeassert_of_deasserted (by exact h)]

theorem checkFrame_withSeq (a : Access) (t : Byte) :
    checkFrame a t (s.withSeq q) = (checkFrame a t s).withSeq q := by
  simp only [checkFrame, onDevice_withSeq, withSeq_dirOpcodeMulti, withSeq_cfgAddr3, withSeq_dev]
  split_ifs <;> rfl

variable {s} {s' : State} {t r : Byte} {e : Data}

theorem transfer_withSeq (h : transfer t s = some (r, s')) :
    transfer t (s.withSeq q) = some (r, s'.withSeq q) := by
  obtain ⟨rest, hb, rfl⟩ | ⟨hb, rfl, rfl⟩ := transfer_cases h
  · simp only [transfer, withSeq_bus, hb]; rfl
  · simp only [transfer, withSeq_bus, hb]; rfl

theorem sendByte_withSeq (h : sendByte t s = some s') : sendByte t (s.withSeq q) = some (s'.withSeq q) := by
  obtain ⟨r, u, hu, rfl⟩ := sendByte_cases h
  simp only [sendByte, transfer_withSeq q hu]; rfl

theorem recvByte_withSeq (h : recvByte t s = some (r, s')) :
    recvByte t (s.withSeq q) = some (r, s'.withSeq q) := by
  obtain ⟨u, hu, rfl⟩ := recvByte_cases h
  simp only [recvByte, transfer_withSeq q hu]; rfl

theorem takeElement_withSeq (h : takeElement s = some (e, s')) :
    takeElement (s.withSeq q) = some (e, s'.withSeq q) := by
  obtain ⟨rest, hw, rfl⟩ := takeElement_cases h
  simp only [takeElement, withSeq_wdIn, hw]; rfl

theorem giveElement_withSeq (h : giveElement e s = some s') :
    giveElement e (s.withSeq q) = some (s'.withSeq q) := by
  obtain ⟨r, hr, rfl⟩ := giveElement_cases h
  simp only [giveElement, withSeq_rdReady, hr]; rfl

theorem giveResponse_withSeq (h : giveResponse s = some s') :
    giveResponse (s.withSeq q) = some (s'.withSeq { q with ph := .idle }) := by
  obtain ⟨r, hr, rfl⟩ := giveResponse_cases h
  simp only [giveResponse, withSeq_rspReady, hr]; rfl

end

/-! ### The frame check -/

/-- The device has taken the data frame for what it is: another look changes nothing (R67, R222). -/
def Settled (a : Access) (s : State) : Prop :=
  s.bus = .device →
    (usesDir a s.dirOpcodeMulti = false → s.dev.bad = true ∧ s.dev.frame ≠ .start)
      ∧ (addrBytes s.cfgAddr3 ≠ s.dev.addrBytes → s.dev.bad = true)

@[simp] theorem Device.fail_frame (d : Device) : d.fail.frame = d.frame := by
  unfold Device.fail; split <;> rfl

theorem Device.misframe_frame (t : Byte) (d : Device) : (d.misframe t).frame ≠ .start := by
  unfold Device.misframe
  split
  · simp
  · next h => rw [Device.fail_frame]; exact h

theorem Device.misframe_of_bad {d : Device} (hb : d.bad = true) (hf : d.frame ≠ .start) (t : Byte) :
    d.misframe t = d := by
  unfold Device.misframe
  split
  · next h => exact absurd h hf
  · exact Device.fail_of_bad hb

/-- No byte brings a marked device to the start of a frame. -/
theorem Device.byte_frame_of_bad {d : Device} (hb : d.bad = true) (hf : d.frame ≠ .start) (t : Byte) :
    (d.byte t).2.frame ≠ .start := by
  rw [Device.byte_of_bad hb]
  unfold Device.follow
  split
  · next h => exact absurd h hf
  · simp
  all_goals exact hf

section

variable {a : Access} {s s' : State}

theorem checkFrame_of_settled (h : Settled a s) (t : Byte) : checkFrame a t s = s := by
  unfold checkFrame
  obtain ⟨rx, hb⟩ | hb := bus_cases s.bus
  · simp [State.onDevice_of_oracle hb]
  · obtain ⟨hdir, hwidth⟩ := h hb
    rw [State.onDevice_of_device hb, State.onDevice_of_device hb]
    split
    · next hd =>
      obtain ⟨hbad, hf⟩ := hdir hd
      rw [Device.misframe_of_bad hbad hf]
    · split
      · next hw => rw [Device.fail_of_bad (hwidth hw)]
      · rfl

theorem settled_checkFrame (t : Byte) : Settled a (checkFrame a t s) := by
  intro hb
  rw [checkFrame_bus] at hb
  unfold checkFrame
  rw [State.onDevice_of_device hb, State.onDevice_of_device hb]
  split
  · exact ⟨fun _ => ⟨(s.dev.misframe_keeps t).1, s.dev.misframe_frame t⟩, fun _ => (s.dev.misframe_keeps t).1⟩
  · next hd =>
    split
    · exact ⟨fun h => absurd h hd, fun _ => s.dev.fail_bad⟩
    · next hw => exact ⟨fun h => absurd h hd, fun h => absurd h hw⟩

theorem Settled.transfer {t r : Byte} (hs : Settled a s) (h : transfer t s = some (r, s')) : Settled a s' := by
  obtain ⟨rest, hb, rfl⟩ | ⟨hb, -, rfl⟩ := transfer_cases h
  · intro hb'; cases hb'
  · obtain ⟨hdir, hwidth⟩ := hs hb
    refine fun _ => ⟨fun hd => ?_, fun hw => ?_⟩
    · obtain ⟨hbad, hf⟩ := hdir hd
      exact ⟨Device.byte_bad_of_bad hbad t, Device.byte_frame_of_bad hbad hf t⟩
    · refine Device.byte_bad_of_bad (hwidth ?_) t
      rwa [Device.addrBytes, Device.byte_capKbit] at hw

end

/-! ### The command in flight -/

/-- A state of the command cw's data frame, its first byte checked. -/
structure Underway (a : Access) (cw : CmdWord) (s : State) : Prop where
  noReset : s.resetIn = none
  cur : s.cur = cw
  settled : Settled a s

namespace Underway

variable {a : Access} {cw : CmdWord} {s s' : State} {t r : Byte} {e : Data}

theorem of_transfer (hs : Underway a cw s) (h : transfer t s = some (r, s')) : Underway a cw s' :=
  have hframe := transfer_frame h
  ⟨by rw [hframe]; exact hs.noReset, by rw [hframe]; exact hs.cur, hs.settled.transfer h⟩

theorem of_sendByte (hs : Underway a cw s) (h : sendByte t s = some s') : Underway a cw s' := by
  obtain ⟨r, u, hu, rfl⟩ := sendByte_cases h
  have hu := hs.of_transfer hu
  exact ⟨hu.noReset, hu.cur, hu.settled⟩

theorem of_recvByte (hs : Underway a cw s) (h : recvByte t s = some (r, s')) : Underway a cw s' := by
  obtain ⟨u, hu, rfl⟩ := recvByte_cases h
  have hu := hs.of_transfer hu
  exact ⟨hu.noReset, hu.cur, hu.settled⟩

theorem of_takeElement (hs : Underway a cw s) (h : takeElement s = some (e, s')) : Underway a cw s' := by
  obtain ⟨rest, -, rfl⟩ := takeElement_cases h
  exact ⟨hs.noReset, hs.cur, hs.settled⟩

theorem of_giveElement (hs : Underway a cw s) (h : giveElement e s = some s') : Underway a cw s' := by
  obtain ⟨r, -, rfl⟩ := giveElement_cases h
  exact ⟨hs.noReset, hs.cur, hs.settled⟩

end Underway

/-! ### The data frame, row by row -/

section

variable {a : Access} {cw : CmdWord} {u v w : State} {q : Sequencer} {e : Data} {r : Byte}

/-- The DATA_X row of a write: the next byte of the element, the next element, or the end. -/
theorem leads_sendByte (hu : Underway a cw u) (hwrite : a.read = false) (hi : q.i.toNat < elemBytes a)
    (hk : q.k.toNat < elemCount a cw) (h : sendByte (byteOf q.ebuf q.i.toNat) u = some v) :
    Leads (.access a) 1 (u.withSeq { q with ph := .dataX })
      (v.withSeq
        (if q.i.toNat + 1 < elemBytes a then { q with ph := .dataX, i := q.i + 1 }
          else if q.k.toNat + 1 < elemCount a cw then { q with ph := .dataLd, i := 0, k := q.k + 1 }
          else { q with ph := .fin, i := 0 })) := by
  have hcount : countersInRange a (u.withSeq { q with ph := .dataX }) = true :=
    countersInRange_iff.2 ⟨hi, by rw [withSeq_cur, hu.cur]; exact hk⟩
  obtain rfl := hu.cur
  refine .of_advance hu.noReset (by simp) ?_
  have hrow : advance (.access a) (u.withSeq { q with ph := .dataX }) =
      .ofHandshake (rowDataXWrite a (u.withSeq { q with ph := .dataX })) := by
    simp only [advance, withSeq_ph, hcount, if_true, hwrite, Bool.false_eq_true, if_false]
  rw [hrow, rowDataXWrite, checkFrame_withSeq, checkFrame_of_settled hu.settled, sendByte_withSeq _ (by exact h)]
  by_cases hnext : q.i.toNat + 1 < elemBytes a
  · rw [if_pos hnext]; exact congrArg Move.ofHandshake (if_pos hnext)
  · by_cases hmore : q.k.toNat + 1 < elemCount a u.cur
    · rw [if_neg hnext, if_pos hmore]
      exact congrArg Move.ofHandshake ((if_neg hnext).trans (if_pos hmore))
    · rw [if_neg hnext, if_neg hmore]
      exact congrArg Move.ofHandshake ((if_neg hnext).trans (if_neg hmore))

/-- The DATA_X row of a read: the next byte of the element, its end, or a scalar's end. -/
theorem leads_recvByte (hu : Underway a cw u) (hread : a.read = true) (hi : q.i.toNat < elemBytes a)
    (hk : q.k.toNat < elemCount a cw) (h : recvByte Config.dummyTx u = some (r, v)) :
    Leads (.access a) 1 (u.withSeq { q with ph := .dataX })
      (if q.i.toNat + 1 < elemBytes a then
          v.withSeq { q with ph := .dataX, acc := setByte q.acc q.i.toNat r, i := q.i + 1 }
        else if a.kind = .scalar then
          State.withSeq { v with rspRd := lowBytes (setByte q.acc q.i.toNat r) (elemBytes a) }
            { q with ph := .fin, acc := setByte q.acc q.i.toNat r }
        else v.withSeq { q with ph := .dataSt, acc := setByte q.acc q.i.toNat r, i := 0 }) := by
  have hcount : countersInRange a (u.withSeq { q with ph := .dataX }) = true :=
    countersInRange_iff.2 ⟨hi, by rw [withSeq_cur, hu.cur]; exact hk⟩
  refine .of_advance hu.noReset (by simp) ?_
  have hrow : advance (.access a) (u.withSeq { q with ph := .dataX }) =
      .ofHandshake (rowDataXRead a (u.withSeq { q with ph := .dataX })) := by
    simp only [advance, withSeq_ph, hcount, if_true, hread]
  rw [hrow, rowDataXRead, checkFrame_withSeq, checkFrame_of_settled hu.settled, recvByte_withSeq _ h]
  by_cases hnext : q.i.toNat + 1 < elemBytes a
  · rw [if_pos hnext]; exact congrArg Move.ofHandshake (if_pos hnext)
  · by_cases hkind : a.kind = .scalar
    · rw [if_neg hnext, if_pos hkind]
      exact congrArg Move.ofHandshake ((if_neg hnext).trans (if_pos hkind))
    · rw [if_neg hnext, if_neg hkind]
      exact congrArg Move.ofHandshake ((if_neg hnext).trans (if_neg hkind))

/-- The DATA_ST row: the element goes to the HOST; the next one, or the end. -/
theorem leads_giveElement (hu : Underway a cw u) (hread : a.read = true) (hkind : a.kind ≠ .scalar) (hi : q.i = 0)
    (hk : q.k.toNat < elemCount a cw) (h : giveElement (lowBytes q.acc (elemBytes a)) u = some v) :
    Leads (.access a) 1 (u.withSeq { q with ph := .dataSt })
      (v.withSeq
        (if q.k.toNat + 1 < elemCount a cw then { q with ph := .dataX, k := q.k + 1, acc := 0 }
          else { q with ph := .fin, acc := 0 })) := by
  have hcount : countersInRange a (u.withSeq { q with ph := .dataSt }) = true :=
    countersInRange_iff.2 ⟨by simp [hi, elemBytes_pos], by rw [withSeq_cur, hu.cur]; exact hk⟩
  obtain rfl := hu.cur
  refine .of_advance hu.noReset (by simp) ?_
  have hrow : advance (.access a) (u.withSeq { q with ph := .dataSt }) =
      .ofHandshake (rowDataSt a (u.withSeq { q with ph := .dataSt })) := by
    simp only [advance, withSeq_ph, hread, hkind, hcount, ne_eq, not_false_eq_true, and_self, if_true]
  rw [hrow, rowDataSt, giveElement_withSeq _ (by exact h)]
  by_cases hmore : q.k.toNat + 1 < elemCount a u.cur
  · rw [if_pos hmore]; exact congrArg Move.ofHandshake (if_pos hmore)
  · rw [if_neg hmore]; exact congrArg Move.ofHandshake (if_neg hmore)

/-- The DATA_LD row: a scalar's element is WDATA, another comes from the write-data stream. -/
theorem leads_takeElement (hu : Underway a cw u) (hwrite : a.read = false)
    (h : (if a.kind = .scalar then some (u.curWdata, u) else takeElement u) = some (e, v)) :
    Leads (.access a) 1 (u.withSeq { q with ph := .dataLd }) (v.withSeq { q with ph := .dataX, ebuf := e }) := by
  refine .of_advance hu.noReset (by simp) ?_
  simp only [advance, withSeq_ph, hwrite, Bool.false_eq_true, if_false, rowDataLd]
  split at h
  · next hk => cases h; simp only [hk, if_true]; rfl
  · next hk => simp only [hk, if_false, takeElement_withSeq _ h]; rfl

/-! ### The data phase -/

theorem toNat_next_byte {i : BitVec 2} (h : i.toNat + 1 < elemBytes a) : (i + 1).toNat = i.toNat + 1 := by
  have hE := elemBytes_le a
  rw [BitVec.toNat_add, Nat.mod_eq_of_lt]
  · rfl
  · exact h.trans_le hE

theorem toNat_next_element {k : BitVec 16} (h : k.toNat + 1 < elemCount a cw) : (k + 1).toNat = k.toNat + 1 := by
  rw [BitVec.toNat_add, Nat.mod_eq_of_lt]
  · rfl
  · exact h.trans (elemCount_lt a cw)

/-- The bytes of a write element from index I on. -/
theorem leads_sendElement {n : Nat} (hu : Underway a cw u) (hwrite : a.read = false)
    (hi : q.i.toNat + (n + 1) = elemBytes a) (hk : q.k.toNat < elemCount a cw)
    (h : sendBytes ((List.range' q.i.toNat (n + 1)).map (byteOf q.ebuf)) u = some v) :
    Underway a cw v ∧ Leads (.access a) (n + 1) (u.withSeq { q with ph := .dataX })
      (v.withSeq
        (if q.k.toNat + 1 < elemCount a cw then { q with ph := .dataLd, i := 0, k := q.k + 1 }
          else { q with ph := .fin, i := 0 })) := by
  induction n generalizing u q with
  | zero =>
    obtain ⟨v', hv, h⟩ := Option.bind_eq_some_iff.1 h
    cases h
    have hrow := leads_sendByte hu hwrite (by omega) hk hv
    rw [if_neg (by omega)] at hrow
    exact ⟨hu.of_sendByte hv, hrow⟩
  | succ n ih =>
    obtain ⟨v', hv, h⟩ := Option.bind_eq_some_iff.1 h
    have hnext : q.i.toNat + 1 < elemBytes a := by omega
    have hrow := leads_sendByte hu hwrite (by omega) hk hv
    rw [if_pos hnext] at hrow
    have hi' := toNat_next_byte hnext
    obtain ⟨hw, hrest⟩ := ih (q := { q with i := q.i + 1 }) (hu.of_sendByte hv) (by rw [hi']; omega) hk
      (by rw [hi']; exact h)
    exact ⟨hw, (hrow.trans hrest).mono (by omega)⟩

/-- The bytes of a read element from index I on. -/
theorem leads_recvElement {n : Nat} {acc : Data} (hu : Underway a cw u) (hread : a.read = true)
    (hi : q.i.toNat + (n + 1) = elemBytes a) (hk : q.k.toNat < elemCount a cw)
    (h : recvElement q.i.toNat q.acc u (n + 1) = some (acc, v)) :
    Underway a cw v ∧ ∃ i, Leads (.access a) (n + 1) (u.withSeq { q with ph := .dataX })
      (if a.kind = .scalar then
          State.withSeq { v with rspRd := lowBytes acc (elemBytes a) } { q with ph := .fin, acc := acc, i := i }
        else v.withSeq { q with ph := .dataSt, acc := acc, i := 0 }) := by
  induction n generalizing u q with
  | zero =>
    obtain ⟨⟨r, v'⟩, hv, h⟩ := Option.bind_eq_some_iff.1 h
    cases h
    have hrow := leads_recvByte hu hread (by omega) hk hv
    rw [if_neg (by omega)] at hrow
    exact ⟨hu.of_recvByte hv, q.i, hrow⟩
  | succ n ih =>
    obtain ⟨⟨r, v'⟩, hv, h⟩ := Option.bind_eq_some_iff.1 h
    have hnext : q.i.toNat + 1 < elemBytes a := by omega
    have hrow := leads_recvByte hu hread (by omega) hk hv
    rw [if_pos hnext] at hrow
    have hi' := toNat_next_byte hnext
    obtain ⟨hw, i, hrest⟩ := ih (q := { q with acc := setByte q.acc q.i.toNat r, i := q.i + 1 }) (hu.of_recvByte hv)
      (by rw [hi']; omega) hk (by rw [hi']; exact h)
    exact ⟨hw, i, (hrow.trans hrest).mono (by omega)⟩

/-- A whole write element, from its load to its last byte. -/
theorem leads_writeElement (hu : Underway a cw u) (hwrite : a.read = false) (hi : q.i = 0)
    (hk : q.k.toNat < elemCount a cw)
    (hload : (if a.kind = .scalar then some (u.curWdata, u) else takeElement u) = some (e, v))
    (hbytes : sendBytes (unpackLE e (elemBytes a)) v = some w) :
    Underway a cw w ∧ Leads (.access a) 5 (u.withSeq { q with ph := .dataLd })
      (w.withSeq
        (if q.k.toNat + 1 < elemCount a cw then { q with ph := .dataLd, ebuf := e, k := q.k + 1 }
          else { q with ph := .fin, ebuf := e })) := by
  obtain ⟨m, hm⟩ : ∃ m, elemBytes a = m + 1 := ⟨elemBytes a - 1, by have := elemBytes_pos a; omega⟩
  have hE := elemBytes_le a
  have hv : Underway a cw v := by
    split at hload
    · cases hload; exact hu
    · exact hu.of_takeElement hload
  rw [unpackLE, List.range_eq_range', hm] at hbytes
  obtain ⟨hw, hsend⟩ := leads_sendElement (n := m) (q := { q with ebuf := e }) hv hwrite (by simp [hi, hm]) hk
    (by rw [hi]; exact hbytes)
  refine ⟨hw, ?_⟩
  rw [← hi] at hsend
  have htake := leads_takeElement (q := q) hu hwrite hload
  exact (htake.trans hsend).mono (by omega)

/-- The FSM comes to FIN in at most n moves, and there agrees with the procedure's state w. -/
def LeadsToFin (a : Access) (n : Nat) (s w : State) : Prop :=
  ∃ q', q'.ph = .fin ∧ w.resetIn = none ∧ Leads (.access a) n s (w.withSeq q')

/-- The elements of a write from index K on. -/
theorem leads_writeElements {n : Nat} (hu : Underway a cw u) (hwrite : a.read = false) (hi : q.i = 0)
    (hk : q.k.toNat + (n + 1) = elemCount a cw) (h : writeElements a u (n + 1) = some w) :
    LeadsToFin a (5 * (n + 1)) (u.withSeq { q with ph := .dataLd }) w := by
  induction n generalizing u q with
  | zero =>
    obtain ⟨⟨e, u'⟩, hload, h⟩ := Option.bind_eq_some_iff.1 h
    obtain ⟨v, hbytes, h⟩ := Option.bind_eq_some_iff.1 h
    cases h
    obtain ⟨hw, helem⟩ := leads_writeElement hu hwrite hi (by omega) hload hbytes
    rw [if_neg (by omega)] at helem
    exact ⟨_, rfl, hw.noReset, helem⟩
  | succ n ih =>
    obtain ⟨⟨e, u'⟩, hload, h⟩ := Option.bind_eq_some_iff.1 h
    obtain ⟨v, hbytes, h⟩ := Option.bind_eq_some_iff.1 h
    have hmore : q.k.toNat + 1 < elemCount a cw := by omega
    obtain ⟨hv, helem⟩ := leads_writeElement hu hwrite hi (by omega) hload hbytes
    rw [if_pos hmore] at helem
    have hk' := toNat_next_element hmore
    obtain ⟨q', hfin, hw, hrest⟩ := ih (q := { q with ebuf := e, k := q.k + 1 }) hv hi (by rw [hk']; omega) h
    exact ⟨q', hfin, hw, (helem.trans hrest).mono (by omega)⟩

/-- A whole read element that goes to the HOST's stream. -/
theorem leads_readElement {acc : Data} (hu : Underway a cw u) (hread : a.read = true) (hkind : a.kind ≠ .scalar)
    (hi : q.i = 0) (hacc : q.acc = 0) (hk : q.k.toNat < elemCount a cw)
    (hbytes : recvElement 0 0 u (elemBytes a) = some (acc, v))
    (hgive : giveElement (lowBytes acc (elemBytes a)) v = some w) :
    Underway a cw w ∧ Leads (.access a) 5 (u.withSeq { q with ph := .dataX })
      (w.withSeq (if q.k.toNat + 1 < elemCount a cw then { q with ph := .dataX, k := q.k + 1 }
        else { q with ph := .fin })) := by
  obtain ⟨m, hm⟩ : ∃ m, elemBytes a = m + 1 := ⟨elemBytes a - 1, by have := elemBytes_pos a; omega⟩
  have hE := elemBytes_le a
  rw [hm] at hbytes
  obtain ⟨hv, i, hrecv⟩ := leads_recvElement (n := m) (q := q) hu hread (by simp [hi, hm]) hk
    (by rw [hi, hacc]; exact hbytes)
  rw [if_neg hkind, ← hi] at hrecv
  have hst := leads_giveElement (q := { q with acc := acc }) hv hread hkind hi hk hgive
  refine ⟨hv.of_giveElement hgive, ?_⟩
  rw [← hacc] at hst
  exact (hrecv.trans hst).mono (by omega)

/-- The elements of a block or page read from index K on. -/
theorem leads_readElements {n : Nat} (hu : Underway a cw u) (hread : a.read = true) (hkind : a.kind ≠ .scalar)
    (hi : q.i = 0) (hacc : q.acc = 0) (hk : q.k.toNat + (n + 1) = elemCount a cw)
    (h : readElements a u (n + 1) = some w) :
    LeadsToFin a (5 * (n + 1)) (u.withSeq { q with ph := .dataX }) w := by
  induction n generalizing u q with
  | zero =>
    obtain ⟨⟨acc, v⟩, hbytes, h⟩ := Option.bind_eq_some_iff.1 h
    obtain ⟨v', hgive, h⟩ := Option.bind_eq_some_iff.1 h
    cases h
    rw [deliver, if_neg hkind] at hgive
    obtain ⟨hw, helem⟩ := leads_readElement hu hread hkind hi hacc (by omega) hbytes hgive
    rw [if_neg (by omega)] at helem
    exact ⟨_, rfl, hw.noReset, helem⟩
  | succ n ih =>
    obtain ⟨⟨acc, v⟩, hbytes, h⟩ := Option.bind_eq_some_iff.1 h
    obtain ⟨v', hgive, h⟩ := Option.bind_eq_some_iff.1 h
    rw [deliver, if_neg hkind] at hgive
    have hmore : q.k.toNat + 1 < elemCount a cw := by omega
    obtain ⟨hv, helem⟩ := leads_readElement hu hread hkind hi hacc (by omega) hbytes hgive
    rw [if_pos hmore] at helem
    have hk' := toNat_next_element hmore
    obtain ⟨q', hfin, hw, hrest⟩ := ih (q := { q with k := q.k + 1 }) hv hi hacc (by rw [hk']; omega) h
    exact ⟨q', hfin, hw, (helem.trans hrest).mono (by omega)⟩

/-- The one element of a scalar read. -/
theorem leads_readScalar (hu : Underway a cw u) (hread : a.read = true) (hkind : a.kind = .scalar) (hi : q.i = 0)
    (hacc : q.acc = 0) (hk : q.k.toNat < elemCount a cw) (h : readElements a u 1 = some w) :
    LeadsToFin a 5 (u.withSeq { q with ph := .dataX }) w := by
  obtain ⟨m, hm⟩ : ∃ m, elemBytes a = m + 1 := ⟨elemBytes a - 1, by have := elemBytes_pos a; omega⟩
  have hE := elemBytes_le a
  obtain ⟨⟨acc, v⟩, hbytes, h⟩ := Option.bind_eq_some_iff.1 h
  obtain ⟨v', hgive, h⟩ := Option.bind_eq_some_iff.1 h
  cases h
  rw [deliver, if_pos hkind] at hgive
  cases hgive
  rw [hm] at hbytes
  obtain ⟨hv, i, hrecv⟩ := leads_recvElement (n := m) (q := q) hu hread (by simp [hi, hm]) hk
    (by rw [hi, hacc]; exact hbytes)
  rw [if_pos hkind] at hrecv
  exact ⟨_, rfl, hv.noReset, hrecv.mono (by omega)⟩

theorem elemCount_scalar (hkind : a.kind = .scalar) (cw : CmdWord) : elemCount a cw = 1 := by
  simp [elemCount, hkind]

/-- The data phase of a command that moves something (R118). -/
theorem leads_dataPhase (hu : Underway a cw u) (hmoves : 0 < byteCount a cw) (hk : q.k = 0) (hi : q.i = 0)
    (hacc : q.acc = 0) (hph : q.ph = if a.read then .dataX else .dataLd) (h : dataPhase a u = some w) :
    LeadsToFin a (5 * elemCount a cw) (u.withSeq q) w := by
  obtain ⟨n, hn⟩ : ∃ n, elemCount a cw = n + 1 := ⟨elemCount a cw - 1, by have := elemCount_pos hmoves; omega⟩
  rw [dataPhase, hu.cur, hn] at h
  have hq (p : Phase) (hp : q.ph = p) : { q with ph := p } = q := by rw [← hp]
  cases hread : a.read with
  | false =>
    simp only [hread, Bool.false_eq_true, if_false] at h hph
    have hdata := leads_writeElements hu hread hi (by simp [hk, hn]) h
    rwa [hq _ hph, ← hn] at hdata
  | true =>
    simp only [hread, if_true] at h hph
    by_cases hkind : a.kind = .scalar
    · obtain rfl : n = 0 := by have := elemCount_scalar hkind cw; omega
      have hdata := leads_readScalar hu hread hkind hi hacc (by simp [hk, hn]) h
      rw [hq _ hph] at hdata
      rwa [hn]
    · have hdata := leads_readElements hu hread hkind hi hacc (by simp [hk, hn]) h
      rwa [hq _ hph, ← hn] at hdata

end

end Sys2Proof.Machine
end

section
/-! The phase FSM realises the procedure TRANSACT (R118, R120), continued: from SEL to the end of the command. -/

namespace Sys2Proof.Machine

open Sys2Proof Sys2Proof.Safety

section

variable {a : Access} {cw : CmdWord} {s u v w : State} {q : Sequencer}

/-! ### The mode (R107) -/

/-- SEL: chip-select is asserted. -/
theorem leads_sel (hreset : s.resetIn = none) :
    Leads (.access a) 1 (s.withSeq { q with ph := .sel }) ((csAssert s).withSeq { q with ph := .mrcmp }) :=
  .of_advance hreset (by simp) (by simp only [advance, withSeq_ph, csAssert_withSeq]; rfl)

/-- MRCMP on a cache hit. -/
theorem leads_mrcmp_hit (hreset : s.resetIn = none) (hit : s.mcV = true ∧ s.mcVal = s.m) :
    Leads (.access a) 1 (s.withSeq { q with ph := .mrcmp })
      (s.withSeq { q with ph := afterMode a s, ai := firstAddrIndex s.cfgAddr3 }) :=
  .of_advance hreset (by simp) (congrArg Move.go (if_pos hit))

/-- MRCMP on a cache miss. -/
theorem leads_mrcmp_miss (hreset : s.resetIn = none) (hmiss : ¬ (s.mcV = true ∧ s.mcVal = s.m)) :
    Leads (.access a) 1 (s.withSeq { q with ph := .mrcmp }) (s.withSeq { q with ph := .mrOpc }) :=
  .of_advance hreset (by simp) (congrArg Move.go (if_neg hmiss))

/-- MR_OPC and MR_VAL: the two bytes of the mode-write frame, and the cache with the second. -/
theorem leads_modeFrame (hreset : s.resetIn = none) (hu : sendByte Config.insWrmr s = some u)
    (hv : sendByte s.m u = some v) :
    Leads (.access a) 2 (s.withSeq { q with ph := .mrOpc })
      (State.withSeq { v with mcV := true, mcVal := s.m } { q with ph := .mrDesel }) := by
  have hframe := sendByte_frame hu
  have hm : u.m = s.m := by rw [hframe]
  have hopc : Leads (.access a) 1 (s.withSeq { q with ph := .mrOpc }) (u.withSeq { q with ph := .mrVal }) := by
    refine .of_advance hreset (by simp) ?_
    simp only [advance, withSeq_ph, sendByte_withSeq _ hu]; rfl
  have hval : Leads (.access a) 1 (u.withSeq { q with ph := .mrVal })
      (State.withSeq { v with mcV := true, mcVal := s.m } { q with ph := .mrDesel }) := by
    refine .of_advance (by rw [withSeq_resetIn, hframe]; exact hreset) (by simp) ?_
    simp only [advance, withSeq_ph, rowMrVal, withSeq_m, hm, sendByte_withSeq _ hv]; rfl
  exact hopc.trans hval

/-- MR_DESEL and MR_RESEL: the data frame starts. -/
theorem leads_reselect (hreset : s.resetIn = none) :
    Leads (.access a) 2 (s.withSeq { q with ph := .mrDesel })
      ((csAssert (csDeassert s)).withSeq { q with ph := afterMode a s, ai := firstAddrIndex s.cfgAddr3 }) := by
  have hdesel : Leads (.access a) 1 (s.withSeq { q with ph := .mrDesel })
      ((csDeassert s).withSeq { q with ph := .mrResel }) :=
    .of_advance hreset (by simp) (by simp only [advance, withSeq_ph, csDeassert_withSeq]; rfl)
  refine hdesel.trans (.of_advance (by simpa using hreset) (by simp) ?_)
  simp only [advance, withSeq_ph, rowMrResel, csAssert_withSeq, afterMode, withSeq_dirOpcodeMulti, withSeq_cfgAddr3,
    csDeassert_dirOpcodeMulti, csDeassert_cfgAddr3]
  rfl

/-- The moves of SET_MODE after SEL. -/
theorem leads_setMode (hreset : s.resetIn = none) (h : setMode s.m (csAssert s) = some v) :
    Leads (.access a) 6 (s.withSeq { q with ph := .sel })
      (v.withSeq { q with ph := afterMode a v, ai := firstAddrIndex v.cfgAddr3 }) := by
  have hsel := leads_sel (a := a) (q := q) hreset
  have hreset' : (csAssert s).resetIn = none := by simpa using hreset
  unfold setMode at h
  split at h
  · next hit =>
    cases h
    have hmrcmp := leads_mrcmp_hit (a := a) (q := q) hreset' (by simpa using hit)
    exact (hsel.trans hmrcmp).mono (by omega)
  · next hmiss =>
    have hcs : (csAssert s).csAct = true := by simp
    rw [csAssert_of_asserted hcs] at h
    obtain ⟨w, hw, rfl⟩ := Option.map_eq_some_iff.1 h
    obtain ⟨w₁, hopc, hw⟩ := Option.bind_eq_some_iff.1 hw
    obtain ⟨w₂, hval, hw⟩ := Option.bind_eq_some_iff.1 hw
    cases hw
    have hmrcmp := leads_mrcmp_miss (a := a) (q := q) hreset' (by simpa using hmiss)
    have hframe := leads_modeFrame (a := a) (q := q) hreset' hopc (by simpa using hval)
    have hw₁ := sendByte_frame hopc
    have hw₂ := sendByte_frame hval
    have hresel := leads_reselect (a := a) (q := q) (s := { w with mcV := true, mcVal := (csAssert s).m })
      (by rw [hw₂, hw₁]; exact hreset')
    simpa [afterMode] using (hsel.trans hmrcmp).trans (hframe.trans hresel)

/-! ### The direction byte and the address (R112) -/

theorem underway_checkFrame (hreset : s.resetIn = none) (hcur : s.cur = cw) (t : Byte) :
    Underway a cw (checkFrame a t s) :=
  ⟨by simpa using hreset, by simpa using hcur, settled_checkFrame t⟩

/-- DIRB. -/
theorem leads_dirb (hreset : s.resetIn = none) (h : sendByte (dirByte a) (checkFrame a (dirByte a) s) = some v) :
    Leads (.access a) 1 (s.withSeq { q with ph := .dirb }) (v.withSeq { q with ph := .addr }) := by
  refine .of_advance hreset (by simp) ?_
  simp only [advance, withSeq_ph, rowDirb, checkFrame_withSeq, sendByte_withSeq _ h]
  rfl

/-- The registers when the data phase starts. -/
def dataStart (a : Access) (q : Sequencer) : Sequencer :=
  { ph := if a.read then .dataX else .dataLd, ai := 0, k := 0, i := 0, acc := 0, ebuf := q.ebuf }

/-- ADDR: the byte AI of the address. -/
theorem leads_addrByte (hreset : s.resetIn = none) (hai : q.ai ≠ 3)
    (h : sendByte (addrByte s.curAddr q.ai.toNat) (checkFrame a (addrByte s.curAddr q.ai.toNat) s) = some v) :
    Leads (.access a) 1 (s.withSeq { q with ph := .addr })
      (v.withSeq (if q.ai = 0 then dataStart a q else { q with ph := .addr, ai := q.ai - 1 })) := by
  refine .of_advance hreset (by simp) ?_
  have hrow : advance (.access a) (s.withSeq { q with ph := .addr }) =
      .ofHandshake (rowAddr a (s.withSeq { q with ph := .addr })) := if_neg hai
  rw [hrow, rowAddr, checkFrame_withSeq, sendByte_withSeq _ (by exact h)]
  by_cases h0 : q.ai = 0
  · have hstart : dataStart a q =
        { q with ph := if a.read then .dataX else .dataLd, k := 0, i := 0, acc := 0 } := by rw [dataStart, h0]
    rw [if_pos h0, hstart]; exact congrArg Move.ofHandshake (if_pos h0)
  · rw [if_neg h0]; exact congrArg Move.ofHandshake (if_neg h0)

/-- Bytes n to 0 of an address, in wire order. -/
def addrBytesFrom (x : Addr) : Nat → List Byte
  | 0 => [addrByte x 0]
  | n + 1 => addrByte x (n + 1) :: addrBytesFrom x n

theorem addrFrame_eq (addr3 : Bool) (x : Addr) : addrFrame addr3 x = addrBytesFrom x (firstAddrIndex addr3).toNat := by
  cases addr3 <;> rfl

theorem ai_ne_three {x : BitVec 2} {n : Nat} (h : x.toNat = n) (hn : n < 3) : x ≠ 3 := fun e => by
  subst e
  exact absurd h (by simp; omega)

/-- The address bytes from AI on, the first of them checked. -/
theorem leads_addrBytes {n : Nat} (hreset : s.resetIn = none) (hai : q.ai.toNat = n) (hn : n < 3)
    (h : sendBytes (addrBytesFrom s.curAddr n) (checkFrame a (addrByte s.curAddr n) s) = some v) :
    Underway a s.cur v ∧
      Leads (.access a) (n + 1) (s.withSeq { q with ph := .addr }) (v.withSeq (dataStart a q)) := by
  induction n generalizing s q with
  | zero =>
    obtain ⟨v', hv, h⟩ := Option.bind_eq_some_iff.1 h
    cases h
    have hrow := leads_addrByte hreset (ai_ne_three hai hn) (by rw [hai]; exact hv)
    rw [if_pos (BitVec.eq_of_toNat_eq hai)] at hrow
    exact ⟨(underway_checkFrame hreset rfl _).of_sendByte hv, hrow⟩
  | succ n ih =>
    obtain ⟨u, hu, h⟩ := Option.bind_eq_some_iff.1 h
    have h0 : q.ai ≠ 0 := fun e => by rw [e] at hai; exact absurd hai (by simp)
    have hrow := leads_addrByte hreset (ai_ne_three hai hn) (by rw [hai]; exact hu)
    rw [if_neg h0] at hrow
    have hunder := (underway_checkFrame hreset rfl _).of_sendByte hu
    have haddr : u.curAddr = s.curAddr := congrArg cwAddr hunder.cur
    have hpred := toNat_pred h0
    obtain ⟨hv, hrest⟩ := ih (s := u) (q := { q with ai := q.ai - 1 }) hunder.noReset (by simp only; omega)
      (by omega) (by rw [checkFrame_of_settled hunder.settled, haddr]; exact h)
    exact ⟨hunder.cur ▸ hv, (hrow.trans hrest).mono (by omega)⟩

/-- The address frame of a command (R112). -/
theorem leads_frameAddress (hreset : s.resetIn = none)
    (h : frameAddress (checkFrame a ((addrFrame s.cfgAddr3 s.curAddr).headD 0) s) = some v) :
    Underway a s.cur v ∧
      Leads (.access a) 3 (s.withSeq { q with ph := .addr, ai := firstAddrIndex s.cfgAddr3 })
        (v.withSeq (dataStart a q)) := by
  have hfirst : (firstAddrIndex s.cfgAddr3).toNat < 3 := by cases s.cfgAddr3 <;> decide
  have hhead (n : Nat) : (addrBytesFrom s.curAddr n).headD 0 = addrByte s.curAddr n := by cases n <;> rfl
  have haddr (t : Byte) : (checkFrame a t s).curAddr = s.curAddr := congrArg cwAddr (by simp)
  rw [frameAddress, checkFrame_cfgAddr3, haddr, addrFrame_eq, hhead] at h
  obtain ⟨hv, haddress⟩ := leads_addrBytes (q := { q with ai := firstAddrIndex s.cfgAddr3 }) hreset rfl hfirst h
  exact ⟨hv, haddress.mono hfirst⟩

/-! ### The whole command (R118, R119) -/

/-- What no byte, no chip-select edge and no stream element writes. -/
structure SameCommand (s v : State) : Prop where
  resetIn : v.resetIn = s.resetIn := by simp
  cur : v.cur = s.cur := by simp
  dirOpcodeMulti : v.dirOpcodeMulti = s.dirOpcodeMulti := by simp
  cfgAddr3 : v.cfgAddr3 = s.cfgAddr3 := by simp

theorem SameCommand.trans (h : SameCommand s u) (h' : SameCommand u v) : SameCommand s v :=
  ⟨h'.resetIn.trans h.resetIn, h'.cur.trans h.cur, h'.dirOpcodeMulti.trans h.dirOpcodeMulti,
    h'.cfgAddr3.trans h.cfgAddr3⟩

theorem sendByte_sameCommand {t : Byte} (h : sendByte t s = some v) : SameCommand s v := by
  rw [sendByte_frame h]
  exact {}

theorem setMode_sameCommand {m : Byte} (h : setMode m s = some v) : SameCommand s v := by
  unfold setMode at h
  split at h
  · cases h; exact {}
  · obtain ⟨w, hw, rfl⟩ := Option.map_eq_some_iff.1 h
    obtain ⟨w₁, hopc, hw⟩ := Option.bind_eq_some_iff.1 hw
    obtain ⟨w₂, hval, hw⟩ := Option.bind_eq_some_iff.1 hw
    cases hw
    have hsel : SameCommand s (csAssert s) := {}
    have hend : SameCommand w (csAssert (csDeassert { w with mcV := true, mcVal := m })) := {}
    exact ((hsel.trans (sendByte_sameCommand hopc)).trans (sendByte_sameCommand hval)).trans hend

/-- From SEL to FIN the FSM does what TRANSACT says. -/
theorem leads_transact (hreset : s.resetIn = none) (hmoves : 0 < byteCount a s.cur) (h : transact a s = some w) :
    ∃ v q', q'.ph = .fin ∧ w = csDeassert v ∧ v.resetIn = none
      ∧ Leads (.access a) (10 + 5 * elemCount a s.cur) (s.withSeq { q with ph := .sel }) (v.withSeq q') := by
  obtain ⟨s₁, h₁, h⟩ := Option.bind_eq_some_iff.1 h
  obtain ⟨s₂, h₂, h⟩ := Option.bind_eq_some_iff.1 h
  obtain ⟨s₃, h₃, h⟩ := Option.bind_eq_some_iff.1 h
  obtain ⟨v, hv, rfl⟩ := Option.map_eq_some_iff.1 h
  have hmode := leads_setMode (a := a) (q := q) hreset h₁
  have hsel : SameCommand s (csAssert s) := {}
  have hs₁ := hsel.trans (setMode_sameCommand h₁)
  have hreset₁ : s₁.resetIn = none := hs₁.resetIn.trans hreset
  -- The address comes after the direction byte, or is checked itself.
  obtain ⟨hs₃, hopen⟩ : Underway a s.cur s₃ ∧ Leads (.access a) 4
      (s₁.withSeq { q with ph := afterMode a s₁, ai := firstAddrIndex s₁.cfgAddr3 })
      (s₃.withSeq (dataStart a q)) := by
    have hcur₁ : s₁.curAddr = s.curAddr := congrArg cwAddr hs₁.cur
    rw [afterMode, hs₁.dirOpcodeMulti]
    by_cases hdir : usesDir a s.dirOpcodeMulti
    · rw [if_pos hdir] at h₂ ⊢
      have hs₂ := (underway_checkFrame hreset₁ hs₁.cur (dirByte a)).of_sendByte h₂
      have hchecked : SameCommand s₁ (checkFrame a (dirByte a) s₁) := {}
      have hsame := hchecked.trans (sendByte_sameCommand h₂)
      obtain ⟨hs₃, haddress⟩ := leads_frameAddress (a := a) (q := q) hs₂.noReset
        (by rw [checkFrame_of_settled hs₂.settled]; exact h₃)
      have hdirb := leads_dirb (q := { q with ai := firstAddrIndex s₁.cfgAddr3 }) hreset₁ h₂
      rw [hsame.cfgAddr3] at haddress
      exact ⟨hs₂.cur ▸ hs₃, (hdirb.trans haddress).mono (by omega)⟩
    · rw [if_neg hdir] at h₂ ⊢
      cases h₂
      rw [← hs₁.cfgAddr3, ← hcur₁] at h₃
      obtain ⟨hs₃, haddress⟩ := leads_frameAddress (q := q) hreset₁ h₃
      exact ⟨hs₁.cur ▸ hs₃, haddress.mono (by omega)⟩
  obtain ⟨q', hfin, hreset', hdata⟩ := leads_dataPhase (q := dataStart a q) hs₃ hmoves rfl rfl rfl rfl hv
  exact ⟨v, q', hfin, rfl, hreset', ((hmode.trans hopen).trans hdata).mono (by omega)⟩

/-- FIN and RSP: the end of the frame, and the response OK. -/
theorem leads_finish {t : State} (hreset : v.resetIn = none) (hq : q.ph = .fin)
    (h : respondWith .ok (csDeassert v).rspRd (csDeassert v) = some t) :
    Leads (.access a) 2 (v.withSeq q) (t.withSeq { q with ph := .idle }) := by
  have hfin : Leads (.access a) 1 (v.withSeq q)
      (State.withSeq { csDeassert v with rspSt := .ok } { q with ph := .rsp }) := by
    refine .of_advance hreset (by simp [hq]) ?_
    simp only [advance, withSeq_ph, hq, rowFin, csDeassert_withSeq]
    rfl
  have hrsp : Leads (.access a) 1 (State.withSeq { csDeassert v with rspSt := .ok } { q with ph := .rsp })
      (t.withSeq { q with ph := .idle }) := by
    refine .of_advance (by simpa using hreset) (by simp) ?_
    have hgive := giveResponse_withSeq { q with ph := .rsp } h
    simp only [advance, withSeq_ph]
    exact congrArg Move.ofHandshake hgive
  exact hfin.trans hrsp

/-- A read or write command's word is legal (R74, R75). -/
theorem legal_of_access {i : Instr} (ha : accessOf i = some a) (hcw : commandWord i = some cw) : legal cw = true := by
  cases i <;> simp only [commandWord, encode, Option.some.injEq, reduceCtorEq] at hcw
  case init => cases ha
  case reservedIllegal => cases ha
  all_goals subst hcw; simp [legal]

/-- The state in which TRANSACT runs the command cw, accepted in s, with its mode in M (R106, R119). -/
def started (a : Access) (cw : CmdWord) (s : State) : State :=
  { accept cw s with m := requestedMode a s.cfgHoldEn, rspRd := 0 }

/-- CHECK lets an admitted command start (R119). -/
theorem leads_check (hreset : s.resetIn = none) (hlegal : legal cw = true) (hadm : Admitted a cw s) :
    Leads (.access a) 1 (accept cw s)
      ((started a cw s).withSeq { (accept cw s).seq with ph := .sel }) := by
  have hverdict : verdict (.access a) (accept cw s) = .transact a :=
    verdict_of_admitted hlegal hadm.init hadm.moves hadm.range
  refine .of_advance (by simpa using hreset) (by simp) (congrArg Move.go ?_)
  rw [rowCheck, hverdict]
  rfl

/-- Where TRANSACT completes a command that passes CHECK and the HOST takes the response, the FSM gives it too. -/
theorem exec_of_transact {i : Instr} {t : State} (ha : accessOf i = some a) (hcw : commandWord i = some cw)
    (hidle : s.ph = .idle) (hreset : s.resetIn = none) (hadm : Admitted a cw s)
    (h : transact a (started a cw s) = some w)
    (ht : respondWith .ok w.rspRd w = some t) :
    ∃ t', exec i s = .next t' ∧ t'.withoutScratch = t.withoutScratch := by
  have hreset' : (started a cw s).resetIn = none := by simpa [started] using hreset
  have hcheck := leads_check hreset (legal_of_access ha hcw) hadm
  obtain ⟨v, q, hq, rfl, hv, htransact⟩ := leads_transact (q := (accept cw s).seq) hreset' hadm.moves h
  have hall := (hcheck.trans htransact).trans (leads_finish hv hq ht)
  have hcount := elemCount_lt a cw
  have hrun := hall.run_of_idle (n' := moveBound s) rfl (by
    show 1 + (10 + 5 * elemCount a cw) + 2 ≤ Config.maxMoves + s.resetIn.getD 0
    simp only [Config.maxMoves]; omega)
  have hexec : exec i s = run (moveBound s) (.access a) (accept cw s) := by
    rw [exec_command hcw, cmdOf_eq_access.2 ha, execute_idle hidle]
  refine ⟨_, hexec.trans hrun, ?_⟩
  obtain ⟨r, -, rfl⟩ := giveResponse_cases ht
  rfl

end

end Sys2Proof.Machine
end

section
/-! The procedure TRANSACT with the reference device on the BUS (R69, R107, R112, R118): every transfer is one byte of
the device, so the procedure completes unless the HOST offers too few elements. -/

namespace Sys2Proof.Machine

open Sys2Proof Sys2Proof.Safety

/-! ### Transfers -/

/-- A state in which the device has become d and these events have been added. -/
def State.moved (s : State) (d : Device) (evs : List Event) : State :=
  { s with dev := d, trace := s.trace ++ evs }

section

variable (s : State) (d : Device) (evs : List Event)

@[simp] theorem moved_dev : (s.moved d evs).dev = d := rfl
@[simp] theorem moved_bus : (s.moved d evs).bus = s.bus := rfl
@[simp] theorem moved_csAct : (s.moved d evs).csAct = s.csAct := rfl
@[simp] theorem moved_cur : (s.moved d evs).cur = s.cur := rfl
@[simp] theorem moved_curAddr : (s.moved d evs).curAddr = s.curAddr := rfl
@[simp] theorem moved_curWdata : (s.moved d evs).curWdata = s.curWdata := rfl
@[simp] theorem moved_wdIn : (s.moved d evs).wdIn = s.wdIn := rfl
@[simp] theorem moved_rspReady : (s.moved d evs).rspReady = s.rspReady := rfl
@[simp] theorem moved_rdReady : (s.moved d evs).rdReady = s.rdReady := rfl
@[simp] theorem moved_cfgAddr3 : (s.moved d evs).cfgAddr3 = s.cfgAddr3 := rfl
@[simp] theorem moved_dirOpcodeMulti : (s.moved d evs).dirOpcodeMulti = s.dirOpcodeMulti := rfl

@[simp] theorem moved_moved (d' : Device) (evs' : List Event) :
    (s.moved d evs).moved d' evs' = s.moved d' (evs ++ evs') := by
  simp [State.moved]

theorem moved_nil : s.moved s.dev [] = s := by
  simp [State.moved]

end

section

variable {s : State}

theorem transfer_of_device (hb : s.bus = .device) (t : Byte) :
    transfer t s = some ((s.dev.byte t).1, { s with dev := (s.dev.byte t).2 }) := by
  unfold transfer; rw [hb]

theorem sendByte_device (hb : s.bus = .device) (t : Byte) :
    sendByte t s = some (s.moved (s.dev.byte t).2 [.xfer t]) := by
  simp only [sendByte, transfer_of_device hb]
  rfl

theorem recvByte_device (hb : s.bus = .device) (t : Byte) :
    recvByte t s = some ((s.dev.byte t).1, s.moved (s.dev.byte t).2 [.xferKeep t (s.dev.byte t).1]) := by
  simp only [recvByte, transfer_of_device hb]
  rfl

theorem sendBytes_device (hb : s.bus = .device) (bs : List Byte) :
    sendBytes bs s = some (s.moved (shiftIn bs s.dev).2 (bs.map .xfer)) := by
  induction bs generalizing s with
  | nil => exact congrArg some (moved_nil s).symm
  | cons b bs ih =>
    rw [sendBytes, sendByte_device hb, Option.bind_some, ih (s := s.moved _ _) hb]
    simp

/-- A word with bytes i, i + 1, ... replaced, in this order. -/
def setBytes (i : Nat) (v : Data) : List Byte → Data
  | [] => v
  | b :: bs => setBytes (i + 1) (setByte v i b) bs

theorem recvElement_device (hb : s.bus = .device) (i : Nat) (acc : Data) (n : Nat) :
    recvElement i acc s n =
      some (setBytes i acc (shiftIn (List.replicate n Config.dummyTx) s.dev).1,
        s.moved (shiftIn (List.replicate n Config.dummyTx) s.dev).2
          ((shiftIn (List.replicate n Config.dummyTx) s.dev).1.map (.xferKeep Config.dummyTx))) := by
  induction n generalizing s i acc with
  | zero => simp [recvElement, setBytes, moved_nil]
  | succ n ih =>
    rw [recvElement, recvByte_device hb, Option.bind_some, ih (s := s.moved _ _) hb]
    simp [List.replicate_succ, setBytes]

end

/-! ### The bytes of an element -/

theorem getLsbD_byteMask {m : Nat} (hm : m < 32) : (0xFF : Data).getLsbD m = decide (m < 8) := by
  have hmask : (0xFF : Data) = (BitVec.allOnes 8).setWidth 32 := rfl
  rw [hmask, BitVec.getLsbD_setWidth, BitVec.getLsbD_allOnes]
  simp [hm]

theorem getLsbD_setByte (v : Data) (j : Nat) (b : Byte) {k : Nat} (hk : k < 32) :
    (setByte v j b).getLsbD k = if 8 * j ≤ k ∧ k < 8 * j + 8 then b.getLsbD (k - 8 * j) else v.getLsbD k := by
  simp only [setByte, BitVec.getLsbD_or, BitVec.getLsbD_and, BitVec.getLsbD_not, BitVec.getLsbD_shiftLeft,
    BitVec.getLsbD_setWidth, getLsbD_byteMask (m := k - 8 * j) (by omega)]
  by_cases hlow : 8 * j ≤ k
  · by_cases hhigh : k < 8 * j + 8
    · have hm : k - 8 * j < 8 := by omega
      have hm' : k - 8 * j < 32 := by omega
      simp [hk, hlow, hhigh, hm, hm', Nat.not_lt.2 hlow]
    · have hm : ¬ k - 8 * j < 8 := by omega
      have hb : b.getLsbD (k - 8 * j) = false := BitVec.getLsbD_of_ge b _ (by omega)
      simp [hk, hhigh, hm, hb]
  · simp [hk, hlow, Nat.lt_of_not_le hlow]

/-- Replacing the bytes from i on gives these bytes there, and keeps the others. -/
theorem getLsbD_setBytes (bs : List Byte) (v : Data) (i : Nat) {k : Nat} (hk : k < 32) :
    (setBytes i v bs).getLsbD k =
      if 8 * i ≤ k ∧ k < 8 * (i + bs.length) then (bs.getD (k / 8 - i) 0).getLsbD (k % 8) else v.getLsbD k := by
  induction bs generalizing v i with
  | nil => rw [if_neg (by simp)]; rfl
  | cons b bs ih =>
    rw [setBytes, ih, getLsbD_setByte _ _ _ hk, List.length_cons]
    by_cases hfirst : 8 * i ≤ k ∧ k < 8 * i + 8
    · have hdiv : k / 8 - i = 0 := by omega
      have hmod : k % 8 = k - 8 * i := by omega
      rw [if_neg (by omega), if_pos hfirst, if_pos (by omega), hdiv, hmod, List.getD_cons_zero]
    · by_cases hrest : 8 * (i + 1) ≤ k ∧ k < 8 * (i + 1 + bs.length)
      · have hdiv : k / 8 - i = k / 8 - (i + 1) + 1 := by omega
        rw [if_pos hrest, if_pos (by omega), hdiv, List.getD_cons_succ]
      · rw [if_neg hrest, if_neg hfirst, if_neg (by omega)]

/-- The bytes of a read element, put in place one after the other (R117), are the element (R50). -/
theorem lowBytes_setBytes (bs : List Byte) : lowBytes (setBytes 0 0 bs) bs.length = packLE bs := by
  apply BitVec.eq_of_getLsbD_eq
  intro k hk
  rw [getLsbD_lowBytes, getLsbD_setBytes _ _ _ hk, getLsbD_packLE _ hk]
  by_cases h : k < 8 * bs.length
  · simp [hk, h]
  · have hout : bs.length ≤ k / 8 := by omega
    simp [h, List.getD_eq_getElem?_getD, hout]

/-! ### The opening of a command -/

section

variable {a : Access} {cw : CmdWord} {s : State}

theorem csAssert_device (hb : s.bus = .device) (hcs : s.csAct = false) :
    csAssert s = State.moved { s with csAct := true } s.dev.select [.sel] := by
  obtain ⟨d, hd, h⟩ := csAssert_reached hcs
  rw [h, hd.dev hb]
  rfl

theorem csDeassert_device (hb : s.bus = .device) (hcs : s.csAct = true) :
    csDeassert s = State.moved { s with csAct := false } s.dev.deselect [.desel] := by
  obtain ⟨d, hd, h⟩ := csDeassert_reached hcs
  rw [h, hd.dev hb]
  rfl

/-- The device selected and in the command's mode: a mode-write frame on a cache miss (R107). -/
def modeSet (a : Access) (s : State) : Device :=
  if cacheMiss a s then
    ((shiftIn [Config.insWrmr, requestedMode a s.cfgHoldEn] s.dev.select).2.deselect).select
  else s.dev.select

theorem cacheMiss_eq_false : cacheMiss a s = false ↔ s.mcV = true ∧ s.mcVal = requestedMode a s.cfgHoldEn := by
  simp [cacheMiss]

/-- SET_MODE on a cache miss, the device selected: a whole mode-write frame (R107). -/
theorem setMode_miss {m : Byte} (hb : s.bus = .device) (hcs : s.csAct = true)
    (hmiss : ¬ (s.mcV = true ∧ s.mcVal = m)) :
    setMode m s = some (State.moved { s with csAct := true, mcV := true, mcVal := m }
      (((shiftIn [Config.insWrmr, m] s.dev).2.deselect).select)
      [.xfer Config.insWrmr, .xfer m, .desel, .sel]) := by
  rw [setMode, if_neg hmiss, csAssert_of_asserted hcs, sendBytes_device hb, Option.map_some,
    csDeassert_device (by exact hb) (by exact hcs), csAssert_device (by exact hb) (by rfl)]
  show some (((State.moved { s with csAct := true, mcV := true, mcVal := m } (shiftIn [Config.insWrmr, m] s.dev).2
    [.xfer Config.insWrmr, .xfer m]).moved _ [.desel]).moved _ [.sel]) = _
  rw [moved_moved, moved_moved]
  rfl

/-- The state in which the data frame starts, the mode set. -/
def modeReady (a : Access) (cw : CmdWord) (s : State) : State :=
  State.moved { started a cw s with csAct := true, mcV := true, mcVal := requestedMode a s.cfgHoldEn }
    (modeSet a s) (modeEvents a s)

/-- SET_MODE at the start of a command (R107). -/
theorem setMode_started (hb : s.bus = .device) (hcs : s.csAct = false) :
    setMode (started a cw s).m (csAssert (started a cw s)) = some (modeReady a cw s) := by
  have hsel : csAssert (started a cw s) = State.moved { started a cw s with csAct := true } s.dev.select [.sel] :=
    csAssert_device (s := started a cw s) hb hcs
  rw [hsel]
  cases hmiss : cacheMiss a s with
  | false =>
    obtain ⟨hv, hval⟩ := cacheMiss_eq_false.1 hmiss
    have hcached : started a cw s =
        { started a cw s with mcV := true, mcVal := requestedMode a s.cfgHoldEn } := by
      rw [← hval, ← hv]; rfl
    rw [setMode, if_pos ⟨hv, hval⟩, modeReady, modeSet, modeEvents, hmiss]
    exact congrArg (fun u : State => some (State.moved { u with csAct := true } s.dev.select [.sel])) hcached
  | true =>
    have hne : ¬ (s.mcV = true ∧ s.mcVal = requestedMode a s.cfgHoldEn) := fun h => by
      rw [cacheMiss_eq_false.2 h] at hmiss; cases hmiss
    rw [setMode_miss (by exact hb) (by rfl) (by exact hne), modeReady, modeSet, modeEvents, hmiss]
    show some ((State.moved
        { started a cw s with
          csAct := true
          mcV := true
          mcVal := requestedMode a s.cfgHoldEn } _ [.sel]).moved _ _) = _
    rw [moved_moved]
    rfl

/-- What the frame check leaves of the device about to take the byte t (R67, R222). -/
def checkedDevice (dir addr3 : Bool) (t : Byte) (d : Device) : Device :=
  if dir = false then d.misframe t else if addrBytes addr3 ≠ d.addrBytes then d.fail else d

theorem checkFrame_device (hb : s.bus = .device) (t : Byte) :
    checkFrame a t s = s.moved (checkedDevice (usesDir a s.dirOpcodeMulti) s.cfgAddr3 t s.dev) [] := by
  unfold checkFrame checkedDevice
  rw [State.onDevice_of_device hb, State.onDevice_of_device hb]
  split_ifs <;> simp [State.moved]

/-- The bytes of a data frame before its data (R112). -/
def headBytes (a : Access) (addr : Addr) (s : State) : List Byte :=
  (if usesDir a s.dirOpcodeMulti then [dirByte a] else []) ++ addrFrame s.cfgAddr3 addr

/-- The device when the data of the command's frame begins. -/
def openedDevice (a : Access) (addr : Addr) (s : State) : Device :=
  (shiftIn (headBytes a addr s)
    (checkedDevice (usesDir a s.dirOpcodeMulti) s.cfgAddr3 ((headBytes a addr s).headD 0) (modeSet a s))).2

/-- The state when the data of the command's frame begins. -/
def opened (a : Access) (cw : CmdWord) (s : State) : State :=
  (modeReady a cw s).moved (openedDevice a (cwAddr cw) s) ((headBytes a (cwAddr cw) s).map .xfer)

@[simp] theorem opened_bus : (opened a cw s).bus = s.bus := by simp [opened, modeReady, started]
@[simp] theorem opened_csAct : (opened a cw s).csAct = true := by simp [opened, modeReady]
@[simp] theorem opened_cur : (opened a cw s).cur = cw := by simp [opened, modeReady, started]
@[simp] theorem opened_wdIn : (opened a cw s).wdIn = s.wdIn := by simp [opened, modeReady, started]
@[simp] theorem opened_rdReady : (opened a cw s).rdReady = s.rdReady := by simp [opened, modeReady, started]
@[simp] theorem opened_rspReady : (opened a cw s).rspReady = s.rspReady := by simp [opened, modeReady, started]
@[simp] theorem opened_dev : (opened a cw s).dev = openedDevice a (cwAddr cw) s := rfl

theorem openingEvents_eq (addr : Addr) :
    openingEvents a addr s = modeEvents a s ++ (headBytes a addr s).map .xfer := by
  unfold openingEvents headBytes dirEvents
  split <;> simp

/-- Direction byte, if there is one, and address of a command (R110 to R112). -/
theorem sendHead_device {u : State} (hb : u.bus = .device) (hdir : u.dirOpcodeMulti = s.dirOpcodeMulti)
    (haddr3 : u.cfgAddr3 = s.cfgAddr3) :
    ((if usesDir a s.dirOpcodeMulti then sendByte (dirByte a) (checkFrame a (dirByte a) u)
        else some (checkFrame a ((addrFrame s.cfgAddr3 u.curAddr).headD 0) u)).bind frameAddress) =
      some (u.moved (shiftIn (headBytes a u.curAddr s)
        (checkedDevice (usesDir a s.dirOpcodeMulti) s.cfgAddr3 ((headBytes a u.curAddr s).headD 0) u.dev)).2
        ((headBytes a u.curAddr s).map .xfer)) := by
  rw [checkFrame_device hb, checkFrame_device hb, hdir, haddr3]
  unfold headBytes
  cases usesDir a s.dirOpcodeMulti with
  | true =>
    rw [if_pos rfl, if_pos rfl, sendByte_device (by exact hb), Option.bind_some, frameAddress,
      sendBytes_device (by exact hb)]
    simp [haddr3]
  | false =>
    rw [if_neg (by simp), if_neg (by simp), Option.bind_some, frameAddress, sendBytes_device (by exact hb)]
    simp [haddr3]

theorem transact_of_parts {s s₁ s₂ s₃ w : State} (h₁ : setMode s.m (csAssert s) = some s₁)
    (h₂ : (if usesDir a s.dirOpcodeMulti then sendByte (dirByte a) (checkFrame a (dirByte a) s₁)
      else some (checkFrame a ((addrFrame s.cfgAddr3 s.curAddr).headD 0) s₁)) = some s₂)
    (h₃ : frameAddress s₂ = some s₃) (h : dataPhase a s₃ = some w) : transact a s = some (csDeassert w) := by
  rw [transact, h₁, Option.bind_some, h₂, Option.bind_some, h₃, Option.bind_some, h, Option.map_some]

/-- TRANSACT is its data phase between the opening and the end of the frame (R118). -/
theorem transact_device {w : State} (hb : s.bus = .device) (hcs : s.csAct = false)
    (h : dataPhase a (opened a cw s) = some w) : transact a (started a cw s) = some (csDeassert w) := by
  have hhead := sendHead_device (a := a) (s := s) (u := modeReady a cw s) (by simpa [modeReady, started] using hb)
    (by simp [modeReady, started]) (by simp [modeReady, started])
  obtain ⟨s₂, h₂, h₃⟩ := Option.bind_eq_some_iff.1 hhead
  exact transact_of_parts (setMode_started hb hcs) h₂ h₃ h

/-- A HOST that takes every response takes this one (R192). -/
theorem respondWith_of_always {u : State} (h : u.rspReady = .always) (st : Status) (v : Data) :
    respondWith st v u =
      some { u with rspSt := st, rspRd := v, ph := .idle, trace := u.trace ++ [.rsp st v] } := by
  have htake : u.rspReady.take = some u.rspReady := by rw [h]; rfl
  simp only [respondWith, giveResponse, htake]
  rfl

/-- A command whose data phase completes on the reference device ends in FIN and RSP, its frame closed (R118, R119). -/
theorem exec_device_of_dataPhase {i : Instr} {v : Data} {more : List Data} {d : Device} {evs : List Event}
    (ha : accessOf i = some a) (hcw : commandWord i = some cw) (hs : Willing s) (hadm : Admitted a cw s)
    (hb : s.bus = .device)
    (h : dataPhase a (opened a cw s) = some (State.moved { opened a cw s with rspRd := v, wdIn := more } d evs)) :
    ∃ t, exec i s = .next t
      ∧ t.withoutScratch = State.withoutScratch
        { finished a s cw v (openingEvents a (cwAddr cw) s ++ evs ++ [.desel]) with
          wdIn := more
          dev := d.deselect } := by
  have htransact := transact_device hb hs.line h
  rw [csDeassert_device (by simpa using hb) (by simp)] at htransact
  obtain ⟨t, ht, hsame⟩ := exec_of_transact ha hcw hs.idle hs.noReset hadm htransact
    (respondWith_of_always (by simpa using hs.takesRsp) _ _)
  refine ⟨t, ht, hsame.trans ?_⟩
  simp [State.withoutScratch, finished, opened, modeReady, openingEvents_eq, started, accept, State.passTime,
    State.emit, State.moved, hs.idle, hs.line, hs.noReset]

end

/-! ### The data phase -/

section

variable {a : Access} {cw : CmdWord} {s : State}

theorem giveElement_of_always (h : s.rdReady = .always) (e : Data) :
    giveElement e s = some (s.moved s.dev [.rd e]) := by
  have htake : s.rdReady.take = some s.rdReady := by rw [h]; rfl
  simp only [giveElement, htake]
  rfl

/-- The dummy bytes of n elements (R116). -/
def dummies (n : Nat) : List Byte := List.replicate n Config.dummyTx

theorem dummies_add (m n : Nat) : dummies (m + n) = dummies m ++ dummies n := List.replicate_add ..

@[simp] theorem length_dummies (n : Nat) : (dummies n).length = n := List.length_replicate

/-- One read element on the device: its bytes and its value. -/
theorem recvElement_dummies (hb : s.bus = .device) :
    ∃ acc, recvElement 0 0 s (elemBytes a) =
        some (acc, s.moved (shiftIn (dummies (elemBytes a)) s.dev).2
          ((shiftIn (dummies (elemBytes a)) s.dev).1.map (.xferKeep Config.dummyTx)))
      ∧ lowBytes acc (elemBytes a) = packLE (shiftIn (dummies (elemBytes a)) s.dev).1 := by
  refine ⟨_, recvElement_device hb 0 0 (elemBytes a), ?_⟩
  have hpack := lowBytes_setBytes (shiftIn (dummies (elemBytes a)) s.dev).1
  rwa [length_shiftIn, length_dummies] at hpack

/-- A block or page read of n elements (R117). -/
theorem readElements_device (hb : s.bus = .device) (hrd : s.rdReady = .always) (hkind : a.kind ≠ .scalar) (n : Nat) :
    readElements a s n =
      some (s.moved (shiftIn (dummies (n * elemBytes a)) s.dev).2
        (readEvents a n (shiftIn (dummies (n * elemBytes a)) s.dev).1)) := by
  induction n generalizing s with
  | zero => simp [readElements, readEvents, elements, dummies, moved_nil]
  | succ n ih =>
    obtain ⟨acc, hrecv, hlow⟩ := recvElement_dummies (a := a) hb
    rw [readElements, hrecv, Option.bind_some, deliver, if_neg hkind, hlow, giveElement_of_always (by exact hrd),
      Option.bind_some, ih (s := (s.moved _ _).moved _ _) hb hrd, Nat.add_mul, Nat.one_mul, Nat.add_comm, dummies_add,
      shiftIn_append]
    have hlen : (shiftIn (dummies (elemBytes a)) s.dev).1.length = elemBytes a := by simp
    simp only [moved_moved, moved_dev, readEvents, elements, List.flatMap_cons, if_neg hkind, List.append_assoc]
    rw [List.take_left' hlen, List.drop_left' hlen]

/-- A scalar read (R117). -/
theorem readScalar_device (hb : s.bus = .device) (hkind : a.kind = .scalar) :
    readElements a s 1 =
      some (State.moved { s with rspRd := packLE (shiftIn (dummies (elemBytes a)) s.dev).1 }
        (shiftIn (dummies (elemBytes a)) s.dev).2
        (readEvents a 1 (shiftIn (dummies (elemBytes a)) s.dev).1)) := by
  obtain ⟨acc, hrecv, hlow⟩ := recvElement_dummies (a := a) hb
  have hlen : (shiftIn (dummies (elemBytes a)) s.dev).1.length = elemBytes a := by simp
  have hevents : readEvents a 1 (shiftIn (dummies (elemBytes a)) s.dev).1 =
      (shiftIn (dummies (elemBytes a)) s.dev).1.map (.xferKeep Config.dummyTx) := by
    simp [readEvents, elements, hkind, List.take_of_length_le hlen.le]
  rw [readElements, hrecv, Option.bind_some, deliver, if_pos hkind, hlow, hevents]
  rfl

/-- A block or page write of the elements es (R117). -/
theorem writeElements_device {es more : List Data} (hb : s.bus = .device) (hwd : s.wdIn = es ++ more)
    (hkind : a.kind ≠ .scalar) :
    writeElements a s es.length =
      some (State.moved { s with wdIn := more } (shiftIn (es.flatMap fun e => unpackLE e (elemBytes a)) s.dev).2
        (writeEvents a es)) := by
  induction es generalizing s with
  | nil =>
    obtain rfl : more = s.wdIn := hwd.symm
    exact congrArg some (moved_nil s).symm
  | cons e es ih =>
    have htake : takeElement s = some (e, State.moved { s with wdIn := es ++ more } s.dev [.wd e]) := by
      simp only [takeElement, hwd]; rfl
    rw [List.length_cons, writeElements, if_neg hkind, htake, Option.bind_some, sendBytes_device (by exact hb),
      Option.bind_some, ih (s := (State.moved _ _ _).moved _ _) (by exact hb) (by rfl)]
    show some (((State.moved { s with wdIn := more } s.dev [.wd e]).moved _ _).moved _ _) = _
    simp [writeEvents, hkind, shiftIn_append]

/-- A scalar write (R117). -/
theorem writeScalar_device (hb : s.bus = .device) (hkind : a.kind = .scalar) :
    writeElements a s 1 =
      some (s.moved (shiftIn ([s.curWdata].flatMap fun e => unpackLE e (elemBytes a)) s.dev).2
        (writeEvents a [s.curWdata])) := by
  rw [writeElements, if_pos hkind, Option.bind_some, sendBytes_device hb, Option.bind_some, writeElements]
  simp [writeEvents, hkind]

/-! ### Whole commands -/

section

variable {i : Instr} (ha : accessOf i = some a) (hcw : commandWord i = some cw) (hs : Willing s)
  (hadm : Admitted a cw s) (hb : s.bus = .device)

include ha hcw hs hadm hb

/-- A read command on the reference device, marked or not: its value and its events are the bytes the device returns
for the dummy bytes (R116 to R119). -/
theorem exec_read_device (hread : a.read = true) :
    ∃ t, exec i s = .next t
      ∧ t.withoutScratch = State.withoutScratch
        { finished a s cw
            (if a.kind = .scalar then packLE (shiftIn (dummies (byteCount a cw)) (openedDevice a (cwAddr cw) s)).1
              else 0)
            (openingEvents a (cwAddr cw) s
              ++ readEvents a (elemCount a cw) (shiftIn (dummies (byteCount a cw)) (openedDevice a (cwAddr cw) s)).1
              ++ [.desel]) with
          dev := (shiftIn (dummies (byteCount a cw)) (openedDevice a (cwAddr cw) s)).2.deselect } := by
  refine exec_device_of_dataPhase (more := s.wdIn) ha hcw hs hadm hb ?_
  rw [dataPhase, if_pos hread, opened_cur]
  by_cases hkind : a.kind = .scalar
  · have hbytes : byteCount a cw = elemBytes a := by rw [byteCount, elemCount_scalar hkind, Nat.one_mul]
    rw [elemCount_scalar hkind, readScalar_device (by simpa using hb) hkind, if_pos hkind, hbytes]
    rfl
  · rw [readElements_device (by simpa using hb) (by simpa using hs.takesRd) hkind, if_neg hkind]
    rfl

/-- A write command on the reference device, marked or not. -/
theorem exec_write_device {es more : List Data} (hwrite : a.read = false) (hlen : es.length = elemCount a cw)
    (hes : if a.kind = .scalar then es = [cwWdata cw] ∧ more = s.wdIn else s.wdIn = es ++ more) :
    ∃ t, exec i s = .next t
      ∧ t.withoutScratch = State.withoutScratch
        { finished a s cw 0 (openingEvents a (cwAddr cw) s ++ writeEvents a es ++ [.desel]) with
          wdIn := more
          dev :=
            (shiftIn (es.flatMap fun e => unpackLE e (elemBytes a)) (openedDevice a (cwAddr cw) s)).2.deselect } := by
  refine exec_device_of_dataPhase ha hcw hs hadm hb ?_
  rw [dataPhase, if_neg (by simp [hwrite]), opened_cur, ← hlen]
  by_cases hkind : a.kind = .scalar
  · rw [if_pos hkind] at hes
    obtain ⟨rfl, rfl⟩ := hes
    have hdata := writeScalar_device (a := a) (s := opened a cw s) (by simpa using hb) hkind
    rw [State.curWdata, opened_cur] at hdata
    exact hdata
  · rw [if_neg hkind] at hes
    rw [writeElements_device (by simpa using hb) (by simpa using hes) hkind]
    rfl

end

end

end Sys2Proof.Machine
end

section
/-! The read and write commands on the reference device (R55, R64, R65, R67, R222): O20, O21 and O22. -/

namespace Sys2Proof.Machine

open Sys2Proof Sys2Proof.Safety

/-! ### The address on the wire (R49, R112) -/

theorem toNat_addrByte (x : Addr) (j : Nat) : (addrByte x j).toNat = x.toNat / 2 ^ (8 * j) % 256 := by
  simp [addrByte, BitVec.extractLsb'_toNat, Nat.shiftRight_eq_div_pow]

theorem length_addrFrame (addr3 : Bool) (x : Addr) : (addrFrame addr3 x).length = addrBytes addr3 := by
  cases addr3 <;> rfl

/-- The address frame spells the address, cut to its bytes. -/
theorem bigEndian_addrFrame (addr3 : Bool) (x : Addr) : bigEndian (addrFrame addr3 x) = sentAddr addr3 x := by
  have h0 := toNat_addrByte x 0
  have h1 := toNat_addrByte x 1
  have h2 := toNat_addrByte x 2
  cases addr3 with
  | false =>
    have h : bigEndian (addrFrame false x) = (addrByte x 1).toNat * 256 + (addrByte x 0).toNat := by
      simp [bigEndian, addrFrame]
    simp only [h, sentAddr, addrBytes, Bool.false_eq_true, if_false]
    omega
  | true =>
    have h : bigEndian (addrFrame true x) =
        ((addrByte x 2).toNat * 256 + (addrByte x 1).toNat) * 256 + (addrByte x 0).toNat := by
      simp [bigEndian, addrFrame]
    simp only [h, sentAddr, addrBytes, if_true]
    omega

section

variable {a : Access} {cw : CmdWord} {s t u : State} {d : Device}

/-! ### The device when the data begins -/

theorem modeSet_evolves (a : Access) (s : State) : s.dev.Evolves (modeSet a s) := by
  unfold modeSet
  split
  · exact (((Device.Evolves.select _).trans (.shiftIn _ _)).trans (.deselect _)).trans (.select _)
  · exact .select _

/-- A frame the device understands opens with the command's mode and address (R64, R107, R112). -/
theorem openedDevice_of_attached (hw : WellAttached a s) (addr : Addr) :
    openedDevice a addr s = { s.dev with
      dmode := .written (requestedMode a s.cfgHoldEn)
      frame := .data a.read (sentAddr s.cfgAddr3 addr) 0 } := by
  have hmode : modeSet a s = { s.dev with dmode := .written (requestedMode a s.cfgHoldEn), frame := .start } := by
    unfold modeSet
    split
    · rw [shiftIn_modeFrame (d := s.dev.select) hw.good rfl (modeOfByte_requestedMode a s.cfgHoldEn)]
      rfl
    · next hmiss =>
      obtain ⟨hv, hval⟩ := cacheMiss_eq_false.1 (by simpa using hmiss)
      rw [← hval, ← hw.mirror hv]
      rfl
  have hcheck : checkedDevice (usesDir a s.dirOpcodeMulti) s.cfgAddr3 ((headBytes a addr s).headD 0) (modeSet a s) =
      modeSet a s := by
    have hwidth : addrBytes s.cfgAddr3 = (modeSet a s).addrBytes := by rw [hmode]; exact hw.width
    rw [checkedDevice, if_neg (by simp [hw.dir]), if_neg (by simp [hwidth])]
  have hhead : headBytes a addr s = dirByte a :: addrFrame s.cfgAddr3 addr := by
    rw [headBytes, if_pos hw.dir]; rfl
  have hframe := shiftIn_open (a := a) (addr := addrFrame s.cfgAddr3 addr)
    (d := { s.dev with dmode := .written (requestedMode a s.cfgHoldEn), frame := .start }) hw.good rfl
    ((length_addrFrame _ _).trans hw.width)
  rw [openedDevice, hcheck, hhead, hmode, hframe, bigEndian_addrFrame]

/-- A frame without a direction byte or of another width finds the device marked when its data begins (R67, R222). -/
theorem openedDevice_bad
    (h : usesDir a s.dirOpcodeMulti = false ∨ addrBytes s.cfgAddr3 ≠ s.dev.addrBytes) (addr : Addr) :
    (openedDevice a addr s).bad = true := by
  refine (Device.Evolves.shiftIn _ _).bad ?_
  unfold checkedDevice
  split
  · exact (Device.misframe_keeps _ _).1
  · next hdir =>
    have hwidth : addrBytes s.cfgAddr3 ≠ (modeSet a s).addrBytes := by
      rw [Device.addrBytes, (modeSet_evolves a s).capKbit]
      exact h.resolve_left hdir
    rw [if_pos hwidth]
    exact Device.fail_bad _

/-! ### The bytes of a command -/

theorem byteCount_of_byte (cw : CmdWord) (h : modeOf a = .byte) : byteCount a cw ≤ 1 := by
  obtain ⟨kind, width, read⟩ := a
  cases kind <;> cases width <;> simp [modeOf] at h
  simp [byteCount, elemCount, elemBytes, widthBytes]

theorem byteCount_of_page (cw : CmdWord) (h : modeOf a = .page) : byteCount a cw ≤ 32 := by
  obtain ⟨kind, width, read⟩ := a
  cases kind <;> cases width <;> simp [modeOf] at h
  all_goals simp [byteCount, elemCount, elemBytes, Config.pageSize]

theorem length_flatMap_unpackLE (es : List Data) (n : Nat) :
    (es.flatMap fun e => unpackLE e n).length = es.length * n := by
  simp

/-- The device at the end of a command, and everything else: what withoutScratch tells of both. -/
theorem dev_of_withoutScratch (h : t.withoutScratch = State.withoutScratch { u with dev := d }) (d' : Device) :
    t.dev = d ∧ State.withoutScratch { t with dev := d' } = State.withoutScratch { u with dev := d' } :=
  ⟨congrArg State.dev h, congrArg (fun v : State => { v with dev := d' }) h⟩

theorem deselect_data {read : Bool} {x j : Nat} (hf : d.frame = .data read x j) :
    d.deselect = { d with frame := .closed } := by
  simp [Device.deselect, hf]

/-- The data phase of a read command on a device it understands: the bytes held, and nothing changed (R55, R64). -/
theorem shiftIn_dummies (hw : WellAttached a s) (hread : a.read = true) :
    (shiftIn (dummies (byteCount a cw)) (openedDevice a (cwAddr cw) s)).1 = storedBytes a cw s
      ∧ (shiftIn (dummies (byteCount a cw)) (openedDevice a (cwAddr cw) s)).2.deselect =
        { s.dev with dmode := .written (requestedMode a s.cfgHoldEn), frame := .closed } := by
  have hone (h : modeOf a = .byte) : (dummies (byteCount a cw)).length ≤ 1 :=
    (length_dummies _).trans_le (byteCount_of_byte cw h)
  have hdata := shiftIn_read (mode := modeOf a) (data := dummies (byteCount a cw))
    (d := { s.dev with
      dmode := .written (requestedMode a s.cfgHoldEn)
      frame := .data true (sentAddr s.cfgAddr3 (cwAddr cw)) 0 })
    hw.good rfl (modeOfByte_requestedMode a s.cfgHoldEn) (isSome_daddr hone)
  rw [openedDevice_of_attached hw, hread, hdata, length_dummies]
  refine ⟨?_, deselect_data rfl⟩
  rw [storedBytes, List.range_eq_range']
  rfl

/-- The data phase of a write command on a device it understands (R64). -/
theorem stored_of_write {data : List Byte} (hw : WellAttached a s) (hwrite : a.read = false)
    (hlen : data.length = byteCount a cw) :
    Stored (modeOf a) (sentAddr s.cfgAddr3 (cwAddr cw)) 0 data (openedDevice a (cwAddr cw) s)
      (shiftIn data (openedDevice a (cwAddr cw) s)).2 := by
  have hone (h : modeOf a = .byte) : data.length ≤ 1 := hlen.trans_le (byteCount_of_byte cw h)
  rw [openedDevice_of_attached hw, hwrite]
  exact shiftIn_write hw.good rfl (modeOfByte_requestedMode a s.cfgHoldEn) (isSome_daddr hone)

theorem capBytes_pos (hw : WellAttached a s) : 0 < s.dev.capBytes := by
  have hcap := hw.cap
  simp only [Device.capBytes, capBytes, Config.bytesPerKbit]
  omega

end

/-- Settles O20: the data bytes of the frame are those the device holds, and each leaves all but the frame parser. -/
theorem readsReturnWhatTheDeviceHolds : Obligations.ReadsReturnWhatTheDeviceHolds := by
  unfold Obligations.ReadsReturnWhatTheDeviceHolds
  intro i a cw s ha hread hcw hs hadm hw
  obtain ⟨t, ht, hsame⟩ := exec_read_device ha hcw hs hadm hw.bus hread
  obtain ⟨hbytes, hleft⟩ := shiftIn_dummies (cw := cw) hw hread
  rw [hbytes, hleft] at hsame
  obtain ⟨hdev, hrest⟩ := dev_of_withoutScratch hsame s.dev
  refine ⟨t, ht, hrest, ?_⟩
  rw [hdev]
  exact ⟨rfl, fun _ => rfl, hw.good, rfl, rfl⟩

/-- Settles O21: each data byte of the frame goes to its address, and the addresses differ (R65). -/
theorem writesStoreTheirBytesAndNoOther : Obligations.WritesStoreTheirBytesAndNoOther := by
  unfold Obligations.WritesStoreTheirBytesAndNoOther
  intro i a cw s es more ha hwrite hcw hs hadm hw hlen hes
  obtain ⟨t, ht, hsame⟩ := exec_write_device ha hcw hs hadm hw.bus hwrite hlen hes
  obtain ⟨hdev, hrest⟩ := dev_of_withoutScratch
    (u := { finished a s cw 0 (openingEvents a (cwAddr cw) s ++ writeEvents a es ++ [.desel]) with wdIn := more })
    hsame s.dev
  have hbytes : (es.flatMap fun e => unpackLE e (elemBytes a)).length = byteCount a cw := by
    rw [length_flatMap_unpackLE, hlen, byteCount]
  have hst := stored_of_write hw hwrite hbytes
  have hopen := openedDevice_of_attached hw (cwAddr cw)
  rw [deselect_data hst.frame] at hdev
  have hcap : (openedDevice a (cwAddr cw) s).capBytes = s.dev.capBytes := by rw [hopen]; rfl
  refine ⟨t, ht, hrest, fun x hx => ?_, fun hfit j x hj hx => ?_, ?_⟩
  · rw [hdev]
    refine (hst.kept x fun j hj => ?_).trans (by rw [hopen]; rfl)
    rw [hcap, Nat.zero_add]
    exact hx j (hbytes ▸ hj)
  · rw [hdev]
    refine hst.stored (fun j j' y hj hj' hy hy' => ?_) j x (hbytes ▸ hj) (by rw [hcap, Nat.zero_add]; exact hx)
    rw [hcap, Nat.zero_add] at hy hy'
    exact daddr_injective (capBytes_pos hw) (dvd_capBytes _) hfit (byteCount_of_page cw) (hbytes ▸ hj)
      (hbytes ▸ hj') hy hy'
  · rw [hdev]
    refine ⟨hst.bad, hst.capKbit.trans ?_, hst.dmode.trans ?_⟩ <;> rw [hopen]

/-- Settles O22: the mark comes before the data, and nothing clears it. -/
theorem misframedCommandsMarkTheDeviceBad : Obligations.MisframedCommandsMarkTheDeviceBad := by
  unfold Obligations.MisframedCommandsMarkTheDeviceBad
  intro i a cw s ha hcw hs hadm hb hmis hfeed
  have hbad (bs : List Byte) : (shiftIn bs (openedDevice a (cwAddr cw) s)).2.deselect.bad = true :=
    Device.deselect_bad_of_bad ((Device.Evolves.shiftIn _ _).bad (openedDevice_bad hmis _))
  have hdone {t : State} {v : Data} {evs : List Event} {more : List Data} {bs : List Byte}
      (h : t.withoutScratch = State.withoutScratch { finished a s cw v evs with
        wdIn := more
        dev := (shiftIn bs (openedDevice a (cwAddr cw) s)).2.deselect }) :
      t.ph = .idle ∧ t.rspSt = .ok ∧ t.dev.bad = true :=
    ⟨(congrArg State.ph h).trans hs.idle, congrArg State.rspSt h,
      (congrArg (fun v => v.dev.bad) h).trans (hbad bs)⟩
  cases hread : a.read with
  | true =>
    obtain ⟨t, ht, hsame⟩ := exec_read_device ha hcw hs hadm hb hread
    exact ⟨t, ht, hdone hsame⟩
  | false =>
    obtain ⟨es, more, hlen, hes⟩ : ∃ es more, es.length = elemCount a cw
        ∧ (if a.kind = .scalar then es = [cwWdata cw] ∧ more = s.wdIn else s.wdIn = es ++ more) := by
      by_cases hkind : a.kind = .scalar
      · exact ⟨[cwWdata cw], s.wdIn, (elemCount_scalar hkind cw).symm, by rw [if_pos hkind]; exact ⟨rfl, rfl⟩⟩
      · exact ⟨s.wdIn.take (elemCount a cw), s.wdIn.drop (elemCount a cw),
          List.length_take_of_le (hfeed hread hkind), by rw [if_neg hkind, List.take_append_drop]⟩
    obtain ⟨t, ht, hsame⟩ := exec_write_device ha hcw hs hadm hb hread hlen hes
    exact ⟨t, ht, hdone hsame⟩

end Sys2Proof.Machine
end

section
/-! Commands one after the other on the reference device: what a command leaves for the next, the round trip of R68
(O23) and the mixed widths of R51 (O24). -/

namespace Sys2Proof.Machine

open Sys2Proof Sys2Proof.Safety

section

variable {a : Access} {cw cw' : CmdWord} {s t : State} {i : Instr}

/-! ### What a command leaves for the next -/

/-- What a completed command keeps: agents, configuration and the device's capacity, with the device still unmarked
and mirrored by the mode cache. -/
structure Follows (s t : State) : Prop where
  willing : Willing t
  bus : t.bus = s.bus
  cfgInit : t.cfgInit = s.cfgInit
  cfgCapKbit : t.cfgCapKbit = s.cfgCapKbit
  cfgAddr3 : t.cfgAddr3 = s.cfgAddr3
  rangeCheck : t.rangeCheck = s.rangeCheck
  dirOpcodeMulti : t.dirOpcodeMulti = s.dirOpcodeMulti
  good : t.dev.bad = false
  capKbit : t.dev.capKbit = s.dev.capKbit
  mirror : t.dev.dmode = .written t.mcVal

theorem follows_of_finished {v : Data} {evs : List Event} {more : List Data} (hs : Willing s)
    (h : State.withoutScratch { t with dev := s.dev } =
      State.withoutScratch { finished a s cw v evs with wdIn := more })
    (hbad : t.dev.bad = false) (hcap : t.dev.capKbit = s.dev.capKbit)
    (hmode : t.dev.dmode = .written (requestedMode a s.cfgHoldEn)) : Follows s t where
  willing :=
    { idle := (congrArg State.ph h).trans hs.idle
      line := (congrArg State.csAct h).trans hs.line
      noReset := (congrArg State.resetIn h).trans hs.noReset
      takesRsp := (congrArg State.rspReady h).trans hs.takesRsp
      takesRd := (congrArg State.rdReady h).trans hs.takesRd }
  bus := (congrArg State.bus h :)
  cfgInit := (congrArg State.cfgInit h :)
  cfgCapKbit := (congrArg State.cfgCapKbit h :)
  cfgAddr3 := (congrArg State.cfgAddr3 h :)
  rangeCheck := (congrArg State.rangeCheck h :)
  dirOpcodeMulti := (congrArg State.dirOpcodeMulti h :)
  good := hbad
  capKbit := hcap
  mirror := hmode.trans (congrArg (fun v => ModeReg.written v.mcVal) h).symm

theorem Follows.wellAttached {a' : Access} (h : Follows s t) (hw : WellAttached a s)
    (hdir : usesDir a' s.dirOpcodeMulti = true) : WellAttached a' t where
  bus := h.bus.trans hw.bus
  good := h.good
  dir := by rw [h.dirOpcodeMulti, hdir]
  width := by rw [h.cfgAddr3, hw.width, Device.addrBytes, Device.addrBytes, h.capKbit]
  cap := h.capKbit ▸ hw.cap
  mirror _ := h.mirror

theorem Follows.admitted (h : Follows s t) (hadm : Admitted a cw s) : Admitted a cw t where
  init := h.cfgInit.trans hadm.init
  moves := hadm.moves
  range := by rw [h.rangeCheck, h.cfgCapKbit]; exact hadm.range

theorem Follows.byteAddress (h : Follows s t) (j : Nat) : byteAddress a cw t j = byteAddress a cw s j := by
  simp only [Safety.byteAddress, Device.capBytes, h.capKbit, h.cfgAddr3]

/-! ### The elements on the read-data stream -/

theorem delivered_append (evs evs' : List Event) : delivered (evs ++ evs') = delivered evs ++ delivered evs' := by
  induction evs with
  | nil => rfl
  | cons e evs ih => cases e <;> simp [delivered, ih]

theorem delivered_xfers (bs : List Byte) : delivered (bs.map .xfer) = [] := by
  induction bs with
  | nil => rfl
  | cons b bs ih => simpa [delivered] using ih

theorem delivered_xferKeeps (tx : Byte) (bs : List Byte) : delivered (bs.map (.xferKeep tx)) = [] := by
  induction bs with
  | nil => rfl
  | cons b bs ih => simpa [delivered] using ih

theorem delivered_openingEvents (addr : Addr) : delivered (openingEvents a addr s) = [] := by
  rw [openingEvents_eq, delivered_append, delivered_xfers, List.append_nil, modeEvents]
  split <;> rfl

/-- A block or page read delivers its elements (R117). -/
theorem delivered_readEvents (hkind : a.kind ≠ .scalar) (n : Nat) (bytes : List Byte) :
    delivered (readEvents a n bytes) = (elements (elemBytes a) n bytes).map packLE := by
  rw [readEvents]
  induction elements (elemBytes a) n bytes with
  | nil => rfl
  | cons e es ih =>
    rw [List.flatMap_cons, delivered_append, ih, delivered_append, delivered_xferKeeps, if_neg hkind]
    rfl

/-- The bytes of elements, cut into elements again. -/
theorem elements_flatMap_unpackLE (es : List Data) (n : Nat) :
    elements n es.length (es.flatMap fun e => unpackLE e n) = es.map fun e => unpackLE e n := by
  induction es with
  | nil => rfl
  | cons e es ih =>
    have hlen := length_unpackLE e n
    rw [List.flatMap_cons, List.length_cons, elements, List.take_left' hlen, List.drop_left' hlen, ih]
    rfl

/-- The bytes of elements, read back, deliver them. -/
theorem delivered_elements (hkind : a.kind ≠ .scalar) (es : List Data) :
    delivered (readEvents a es.length (es.flatMap fun e => unpackLE e (elemBytes a))) =
      es.map fun e => lowBytes e (elemBytes a) := by
  rw [delivered_readEvents hkind, elements_flatMap_unpackLE, List.map_map]
  exact List.map_congr_left fun e _ => packLE_unpackLE e _

/-! ### One command -/

/-- A read command of the bytes held (O20), as the next command and the HOST see it. -/
theorem exec_read_of_attached (ha : accessOf i = some a) (hread : a.read = true) (hcw : commandWord i = some cw)
    (hs : Willing s) (hadm : Admitted a cw s) (hw : WellAttached a s) :
    ∃ t evs, exec i s = .next t ∧ t.rspSt = .ok
      ∧ t.rspRd = (if a.kind = .scalar then packLE (storedBytes a cw s) else 0)
      ∧ t.trace = s.trace ++ evs
      ∧ delivered evs = delivered (readEvents a (elemCount a cw) (storedBytes a cw s)) := by
  obtain ⟨t, ht, hsame, -⟩ := readsReturnWhatTheDeviceHolds i a cw s ha hread hcw hs hadm hw
  refine ⟨t, _, ht, congrArg State.rspSt hsame, congrArg State.rspRd hsame,
    (congrArg State.trace hsame).trans (List.append_assoc ..), ?_⟩
  simp [delivered, delivered_append, delivered_openingEvents]

/-- A write command (O21): a command can follow, each data byte is at its address, and the others are kept. -/
theorem exec_write_of_attached {es more : List Data} (ha : accessOf i = some a) (hwrite : a.read = false)
    (hcw : commandWord i = some cw) (hs : Willing s) (hadm : Admitted a cw s) (hw : WellAttached a s)
    (hfit : byteCount a cw ≤ s.dev.capBytes) (hlen : es.length = elemCount a cw)
    (hes : if a.kind = .scalar then es = [cwWdata cw] ∧ more = s.wdIn else s.wdIn = es ++ more) :
    ∃ t, exec i s = .next t ∧ Follows s t
      ∧ storedBytes a cw t = es.flatMap (fun e => unpackLE e (elemBytes a))
      ∧ ∀ x, (∀ j, j < byteCount a cw → byteAddress a cw s j ≠ some x) → t.dev.read x = s.dev.read x := by
  obtain ⟨t, ht, hsame, hkept, hstored, hbad, hcap, hmode⟩ :=
    writesStoreTheirBytesAndNoOther i a cw s es more ha hwrite hcw hs hadm hw hlen hes
  have hnext := follows_of_finished hs hsame hbad hcap hmode
  refine ⟨t, ht, hnext, ?_, hkept⟩
  have hbytes : (es.flatMap fun e => unpackLE e (elemBytes a)).length = byteCount a cw := by
    rw [length_flatMap_unpackLE, hlen, byteCount]
  apply List.ext_getElem?
  intro j
  by_cases hj : j < byteCount a cw
  · obtain ⟨x, hx⟩ := Option.isSome_iff_exists.1
      (isSome_daddr (cap := s.dev.capBytes) (a := sentAddr s.cfgAddr3 (cwAddr cw)) (byteCount_of_byte cw) j j.zero_le
        (by rwa [Nat.zero_add]))
    have haddr : byteAddress a cw t j = some x := (hnext.byteAddress j).trans hx
    rw [hstored hfit j x hj hx]
    simp [storedBytes, hj, haddr]
  · rw [List.getElem?_eq_none (by simpa [storedBytes] using hj), List.getElem?_eq_none (by omega)]

/-! ### The read command of a write command -/

variable (hcount : cwCount cw' = cwCount cw)

include hcount

theorem elemCount_read : elemCount { a with read := true } cw' = elemCount a cw := by
  simp only [elemCount, hcount]

theorem byteCount_read : byteCount { a with read := true } cw' = byteCount a cw := by
  rw [byteCount, elemCount_read hcount]
  rfl

variable (haddr : cwAddr cw' = cwAddr cw)

include haddr

theorem storedBytes_read : storedBytes { a with read := true } cw' s = storedBytes a cw s := by
  simp only [storedBytes, byteAddress, byteCount_read hcount, haddr]
  rfl

theorem admitted_read (hadm : Admitted a cw s) : Admitted { a with read := true } cw' s where
  init := hadm.init
  moves := by rw [byteCount_read hcount]; exact hadm.moves
  range h := by
    have hrange := hadm.range h
    simp only [inRange, byteCount_read hcount, haddr] at hrange ⊢
    exact hrange

end

/-- Settles O23: the read returns the bytes at its addresses, and there the write has put its own. -/
theorem writeThenReadReturnsTheValue : Obligations.WriteThenReadReturnsTheValue := by
  unfold Obligations.WriteThenReadReturnsTheValue
  intro i i' a cw cw' s es more ha hwrite hcw ha' hcw' haddr hcount hs hadm hw hfit hlen hes
  have hoffer : if a.kind = .scalar then es = [cwWdata cw] ∧ (if a.kind = .scalar then s.wdIn else more) = s.wdIn
      else s.wdIn = es ++ (if a.kind = .scalar then s.wdIn else more) := by
    split_ifs at hes ⊢ with hkind
    · exact ⟨hes, rfl⟩
    · exact hes
  obtain ⟨t, ht, hnext, hstored, -⟩ := exec_write_of_attached ha hwrite hcw hs hadm hw hfit hlen hoffer
  obtain ⟨u, evs, hu, hok, hval, htrace, hdel⟩ := exec_read_of_attached ha' rfl hcw' hnext.willing
    (admitted_read hcount haddr (hnext.admitted hadm)) (hnext.wellAttached hw hw.dir)
  rw [storedBytes_read hcount haddr, hstored] at hval hdel
  refine ⟨t, u, evs, ht, hu, hok, htrace, ?_⟩
  by_cases hkind : a.kind = .scalar
  · rw [if_pos hkind] at hes hval ⊢
    rw [hval, hes, List.flatMap_singleton, packLE_unpackLE]
  · rw [if_neg hkind, hdel, elemCount_read hcount, ← hlen]
    exact delivered_elements (a := { a with read := true }) hkind es

/-! ### Scalars below a limit -/

/-- The addresses below a limit can be read and written as they are: configured, in the device, and spelled by a
frame. -/
structure Reaches (limit : Nat) (s : State) : Prop where
  willing : Willing s
  init : s.cfgInit = true
  attached : WellAttached ⟨.scalar, .four, false⟩ s
  configured : limit ≤ capBytes s.cfgCapKbit.toNat
  inDevice : limit ≤ s.dev.capBytes
  spelled : limit ≤ 256 ^ addrBytes s.cfgAddr3

section

variable {limit : Nat} {a : Access} {cw : CmdWord} {s t : State} {i : Instr}

theorem Follows.reaches (h : Follows s t) (hr : Reaches limit s) : Reaches limit t where
  willing := h.willing
  init := h.cfgInit.trans hr.init
  attached := h.wellAttached hr.attached hr.attached.dir
  configured := by rw [h.cfgCapKbit]; exact hr.configured
  inDevice := by rw [Device.capBytes, h.capKbit]; exact hr.inDevice
  spelled := by rw [h.cfgAddr3]; exact hr.spelled

variable (hr : Reaches limit s)

include hr

theorem Reaches.wellAttached (a : Access) : WellAttached a s := by
  obtain ⟨hbus, hgood, hdir, hwidth, hcap, hmirror⟩ := hr.attached
  refine ⟨hbus, hgood, ?_, hwidth, hcap, hmirror⟩
  have hmulti : s.dirOpcodeMulti = true := hdir
  simp [usesDir, hmulti]

variable (hkind : a.kind = .scalar) (hin : (cwAddr cw).toNat + elemBytes a ≤ limit)

include hkind hin

theorem Reaches.admitted : Admitted a cw s := by
  have hbytes : byteCount a cw = elemBytes a := by rw [byteCount, elemCount_scalar hkind, Nat.one_mul]
  refine ⟨hr.init, hbytes ▸ elemBytes_pos a, fun _ => ?_⟩
  simp [inRange, hkind, hbytes, hin.trans hr.configured]

theorem Reaches.byteAddress {j : Nat} (hj : j < elemBytes a) : byteAddress a cw s j = some ((cwAddr cw).toNat + j) := by
  have hsent : sentAddr s.cfgAddr3 (cwAddr cw) = (cwAddr cw).toNat :=
    Nat.mod_eq_of_lt (by have := hr.spelled; omega)
  have hlt : (cwAddr cw).toNat + j < s.dev.capBytes := by have := hr.inDevice; omega
  have hstart : (cwAddr cw).toNat % s.dev.capBytes = (cwAddr cw).toNat := Nat.mod_eq_of_lt (by omega)
  obtain ⟨kind, width, read⟩ := a
  obtain rfl : kind = .scalar := hkind
  cases width with
  | one =>
    obtain rfl : j = 0 := by simpa [elemBytes, widthBytes] using hj
    simp [Safety.byteAddress, modeOf, daddr, hsent, hstart]
  | two => simp [Safety.byteAddress, modeOf, daddr, hsent, hstart, Nat.mod_eq_of_lt hlt]
  | four => simp [Safety.byteAddress, modeOf, daddr, hsent, hstart, Nat.mod_eq_of_lt hlt]

theorem Reaches.storedBytes :
    storedBytes a cw s = (List.range (elemBytes a)).map fun j => s.dev.read ((cwAddr cw).toNat + j) := by
  rw [Safety.storedBytes, byteCount, elemCount_scalar hkind, Nat.one_mul]
  refine List.map_congr_left fun j hj => ?_
  rw [hr.byteAddress hkind hin (List.mem_range.1 hj)]

variable {x : Nat} (hx : (cwAddr cw).toNat = x)

include hx

/-- A scalar read returns the bytes from its address on. -/
theorem exec_read_scalar (ha : accessOf i = some a) (hread : a.read = true) (hcw : commandWord i = some cw)
    {held : Nat → Byte} (hheld : ∀ j, j < elemBytes a → s.dev.read (x + j) = held j) :
    ∃ t, exec i s = .next t ∧ t.rspRd = packLE ((List.range (elemBytes a)).map held) := by
  obtain ⟨t, -, ht, -, hval, -⟩ := exec_read_of_attached ha hread hcw hr.willing (hr.admitted hkind hin)
    (hr.wellAttached a)
  rw [if_pos hkind, hr.storedBytes hkind hin, hx] at hval
  exact ⟨t, ht, hval.trans (congrArg packLE (List.map_congr_left fun j hj => hheld j (List.mem_range.1 hj)))⟩

/-- A scalar write puts its bytes from its address on, and keeps the others. -/
theorem exec_write_scalar (ha : accessOf i = some a) (hwrite : a.read = false) (hcw : commandWord i = some cw) :
    ∃ t, exec i s = .next t ∧ Reaches limit t
      ∧ (∀ j, j < elemBytes a → t.dev.read (x + j) = byteOf (cwWdata cw) j)
      ∧ ∀ y, y < x ∨ x + elemBytes a ≤ y → t.dev.read y = s.dev.read y := by
  have hbytes : byteCount a cw = elemBytes a := by rw [byteCount, elemCount_scalar hkind, Nat.one_mul]
  have hfit : byteCount a cw ≤ s.dev.capBytes := by have := hr.inDevice; omega
  obtain ⟨t, ht, hnext, hstored, hkept⟩ := exec_write_of_attached (es := [cwWdata cw]) (more := s.wdIn) ha hwrite
    hcw hr.willing (hr.admitted hkind hin) (hr.wellAttached a) hfit (elemCount_scalar hkind cw).symm
    (by rw [if_pos hkind]; exact ⟨rfl, rfl⟩)
  have ht' := hnext.reaches hr
  rw [ht'.storedBytes hkind hin, List.flatMap_singleton, unpackLE, hx] at hstored
  refine ⟨t, ht, ht', fun j hj => List.map_inj_left.1 hstored j (List.mem_range.2 hj), fun y hy => ?_⟩
  refine hkept y fun j hj h => ?_
  rw [hr.byteAddress hkind hin (hbytes ▸ hj), Option.some.injEq] at h
  omega

end

/-! ### Mixed widths (R51) -/

section

variable {a : Addr} {s : State}

theorem toNat_add_ofNat {j : Nat} (h : a.toNat + j < 2 ^ 24) : (a + BitVec.ofNat 24 j).toNat = a.toNat + j := by
  rw [BitVec.toNat_add, BitVec.toNat_ofNat]
  omega

theorem packLE_singleton (b : Byte) : packLE [b] = b.setWidth 32 := by
  simp [packLE]

theorem lowBytes_two (v : Data) : lowBytes v 2 = v &&& 0xFFFF := by
  have hmask : (0xFFFF : Data) = (BitVec.allOnes 16).setWidth 32 := rfl
  apply BitVec.eq_of_getLsbD_eq
  intro k hk
  rw [getLsbD_lowBytes, hmask, BitVec.getLsbD_and, BitVec.getLsbD_setWidth, BitVec.getLsbD_allOnes]
  simp [hk, Bool.and_comm]

variable (hr : Reaches (a.toNat + 4) s)

include hr

/-- A 32-bit write puts byte j of its word at a + j. -/
theorem exec_wr32 (v : Data) :
    ∃ t, exec (.wr32 a v) s = .next t ∧ Reaches (a.toNat + 4) t
      ∧ ∀ j, j < 4 → t.dev.read (a.toNat + j) = byteOf v j := by
  obtain ⟨t, ht, hrt, hstored, -⟩ := exec_write_scalar (a := ⟨.scalar, .four, false⟩) (cw := cmdWord v 0 a 0x04)
    (i := .wr32 a v) hr rfl (by simp [elemBytes, widthBytes]) (congrArg _ (cwAddr_cmdWord ..)) rfl rfl rfl
  rw [cwWdata_cmdWord] at hstored
  exact ⟨t, ht, hrt, hstored⟩

theorem exec_rd16 (w : Data) {held : Nat → Byte} (hheld : ∀ j, j < 4 → s.dev.read (a.toNat + j) = held j) :
    ∃ t, exec (.rd16 a w) s = .next t ∧ t.rspRd = packLE ((List.range 2).map held) :=
  exec_read_scalar (a := ⟨.scalar, .two, true⟩) (cw := cmdWord w 0 a 0x03) hr rfl
    (by simp [elemBytes, widthBytes]) (congrArg _ (cwAddr_cmdWord ..)) rfl rfl rfl
    fun j hj => hheld j (hj.trans (by decide))

theorem exec_rd32 (w : Data) {held : Nat → Byte} (hheld : ∀ j, j < 4 → s.dev.read (a.toNat + j) = held j) :
    ∃ t, exec (.rd32 a w) s = .next t ∧ t.rspRd = packLE ((List.range 4).map held) :=
  exec_read_scalar (a := ⟨.scalar, .four, true⟩) (cw := cmdWord w 0 a 0x05) hr rfl
    (by simp [elemBytes, widthBytes]) (congrArg _ (cwAddr_cmdWord ..)) rfl rfl rfl hheld

variable (htop : a.toNat + 4 ≤ 2 ^ 24)

include htop

/-- An 8-bit write to the next address adds a byte to those written. -/
theorem exec_wr8_next {k : Nat} (hk : k < 4) {b : Nat → Data}
    (hheld : ∀ j, j < k → s.dev.read (a.toNat + j) = byteOf (b j) 0) :
    ∃ t, exec (.wr8 (a + BitVec.ofNat 24 k) (b k)) s = .next t ∧ Reaches (a.toNat + 4) t
      ∧ ∀ j, j < k + 1 → t.dev.read (a.toNat + j) = byteOf (b j) 0 := by
  have hx : (cwAddr (cmdWord (b k) 0 (a + BitVec.ofNat 24 k) 0x00)).toNat = a.toNat + k := by
    rw [cwAddr_cmdWord, toNat_add_ofNat (by omega)]
  obtain ⟨t, ht, hrt, hstored, hkept⟩ := exec_write_scalar (a := ⟨.scalar, .one, false⟩)
    (i := .wr8 (a + BitVec.ofNat 24 k) (b k)) hr rfl (by simp only [elemBytes, widthBytes]; omega) hx rfl rfl rfl
  rw [cwWdata_cmdWord] at hstored
  refine ⟨t, ht, hrt, fun j hj => ?_⟩
  obtain hlt | rfl := Nat.lt_succ_iff_lt_or_eq.1 hj
  · exact (hkept _ (.inl (by omega))).trans (hheld j hlt)
  · exact hstored 0 (by decide)

theorem exec_rd8 {j : Nat} (hj : j < 4) (w : Data) {b : Byte} (hheld : s.dev.read (a.toNat + j) = b) :
    ∃ t, exec (.rd8 (a + BitVec.ofNat 24 j) w) s = .next t ∧ t.rspRd = b.setWidth 32 := by
  have hx : (cwAddr (cmdWord w 0 (a + BitVec.ofNat 24 j) 0x01)).toNat = a.toNat + j := by
    rw [cwAddr_cmdWord, toNat_add_ofNat (by omega)]
  obtain ⟨t, ht, hval⟩ := exec_read_scalar (a := ⟨.scalar, .one, true⟩) (i := .rd8 (a + BitVec.ofNat 24 j) w)
    hr rfl (by simp only [elemBytes, widthBytes]; omega) hx rfl rfl rfl (held := fun _ => b) fun m hm => by
      obtain rfl : m = 0 := by simpa [elemBytes, widthBytes] using hm
      exact hheld
  exact ⟨t, ht, hval.trans (packLE_singleton b)⟩

end

/-- Settles O24: every byte is where the 32-bit or the 8-bit writes have put it. -/
theorem mixedWidthsAgreeByteByByte : Obligations.MixedWidthsAgreeByteByByte := by
  unfold Obligations.MixedWidthsAgreeByteByByte
  intro s a v w w' j b hs hinit hw hcfg hdev hspell
  have hr : Reaches (a.toNat + 4) s :=
    ⟨hs, hinit, hw, hcfg, hcfg.trans (Nat.mul_le_mul_right 128 hdev), hspell⟩
  have htop : a.toNat + 4 ≤ 2 ^ 24 := hspell.trans (by cases s.cfgAddr3 <;> decide)
  constructor
  · intro hj
    obtain ⟨t, ht, hrt, hheld⟩ := exec_wr32 hr v
    obtain ⟨u, hu, hbyte⟩ := exec_rd8 hrt htop hj w (hheld j hj)
    obtain ⟨x, hx, hhalf⟩ := exec_rd16 hrt w' hheld
    have hlow : packLE ((List.range 2).map (byteOf v)) = v &&& 0xFFFF := (packLE_unpackLE v 2).trans (lowBytes_two v)
    exact ⟨t, u, x, ht, hu, hbyte, hx, hhalf.trans hlow⟩
  · obtain ⟨t0, h0, hr0, held0⟩ := exec_wr8_next hr htop (k := 0) (b := b) (by decide) (by simp)
    obtain ⟨t1, h1, hr1, held1⟩ := exec_wr8_next hr0 htop (by decide) held0
    obtain ⟨t2, h2, hr2, held2⟩ := exec_wr8_next hr1 htop (by decide) held1
    obtain ⟨t3, h3, hr3, held3⟩ := exec_wr8_next hr2 htop (by decide) held2
    obtain ⟨u, hu, hword⟩ := exec_rd32 hr3 w (held := fun j => byteOf (b j) 0) held3
    rw [BitVec.add_zero] at h0
    exact ⟨t0, t1, t2, t3, u, h0, h1, h2, h3, hu, hword.trans (packLE_four ..)⟩

end Sys2Proof.Machine
end

section
/-! The decoder on the words the encoder makes (R70 to R80, R88): O1 to O8. -/

namespace Sys2Proof

open Machine Safety

/-! ### Every instruction's own word -/

/-- INIT's WDATA carries HOLD_EN in its bit 0 (R74). -/
theorem getLsbD_cmdWord_hold (hold : Bool) (n : Count) (c : Addr) (op : Byte) :
    (cmdWord (if hold then 1 else 0) n c op).getLsbD 48 = hold := by
  rw [getLsbD_cmdWord]
  cases hold <;> rfl

/-- A well-formed command is what its own word decodes to (R74, R88). -/
theorem decodeCmd_of_commandWord (i : Instr) {cw : CmdWord} (hwf : wellFormed i = true)
    (h : commandWord i = some cw) : decodeCmd cw = i := by
  cases i with
  | init c hold =>
    obtain ⟨hlow, hhigh⟩ : 1 ≤ c.toNat ∧ c.toNat ≤ Config.capMaxKbit := by simpa [wellFormed] using hwf
    cases h
    unfold decodeCmd
    rw [getLsbD_cmdWord_hold]
    cases hold <;> simp [legal, hlow, hhigh]
  | reservedIllegal w =>
    cases h
    exact decodeCmd_of_not_legal (by simpa [wellFormed] using hwf)
  | devWrmr | devWrite | devRead | devRdmr => cases h
  | _ => cases h; simp [decodeCmd, legal]

/-- INIT of a legal capacity is an instruction (R75). -/
theorem wellFormed_init {c : Addr} (hold : Bool) (hlow : 1 ≤ c.toNat) (hhigh : c.toNat ≤ 131072) :
    wellFormed (.init c hold) = true := by
  simp [wellFormed, hlow, Config.capMaxKbit, hhigh]

/-- The decoder undoes the encoder on the device's number space (R80). -/
theorem decodeDev_of_encode {i : Instr} {b : Byte} (h : encode i = .devIns b) : decodeDev b = some i := by
  cases i <;> cases h <;> decide

/-- Settles O1: a command by its own word, a device instruction by its byte. -/
theorem decodeInvertsEncode : Obligations.DecodeInvertsEncode := by
  unfold Obligations.DecodeInvertsEncode
  intro i hwf
  cases h : encode i with
  | cmd80 cw =>
    have hcw : commandWord i = some cw := by simp [commandWord, h]
    exact congrArg Except.ok (decodeCmd_of_commandWord i hwf hcw)
  | devIns b => simp [decode, decodeDev_of_encode h]

/-- Settles O2: legal words by their OP, all others kept whole by reserved_illegal. -/
theorem encodeInvertsDecodeOfCommandWords : Obligations.EncodeInvertsDecodeOfCommandWords :=
  encode_decodeCmd

/-! ### Every word's own instruction (R78) -/

/-- A legal word is a read or write command, or INIT of its own address field (R74). -/
theorem decodeCmd_of_legal {cw : CmdWord} (h : legal cw = true) :
    (accessOf (decodeCmd cw)).isSome = true ∨ decodeCmd cw = .init (cwAddr cw) (cw.getLsbD 48) := by
  obtain ⟨ho, -⟩ | ho | ⟨hop, -⟩ := legal_iff.1 h
  · obtain hop | hop | hop | hop | hop | hop | hop | hop := scalar_or_page_op _ ho
    all_goals exact .inl (by simp [decodeCmd, h, hop, accessOf])
  · obtain hop | hop | hop | hop | hop | hop := block_op _ ho
    all_goals exact .inl (by simp [decodeCmd, h, hop, accessOf])
  · exact .inr (by simp [decodeCmd, h, hop])

theorem wellFormed_of_accessOf {i : Instr} (h : (accessOf i).isSome = true) : wellFormed i = true := by
  cases i with
  | init | reservedIllegal | devWrmr | devWrite | devRead | devRdmr => cases h
  | _ => rfl

theorem wellFormed_decodeCmd (cw : CmdWord) : wellFormed (decodeCmd cw) = true := by
  cases hl : legal cw with
  | false => simp [decodeCmd_of_not_legal hl, wellFormed, hl]
  | true =>
    obtain h | h := decodeCmd_of_legal hl
    · exact wellFormed_of_accessOf h
    · obtain ⟨hlow, hhigh⟩ := cap_of_init hl h
      rw [h]
      exact wellFormed_init _ hlow hhigh

/-- Settles O3: what a legal word decodes to is not reserved_illegal. -/
theorem everyWordIsOneLegalCommandOrIllegal : Obligations.EveryWordIsOneLegalCommandOrIllegal := by
  unfold Obligations.EveryWordIsOneLegalCommandOrIllegal
  intro cw
  refine ⟨rfl, wellFormed_decodeCmd cw, ?_⟩
  cases hl : legal cw with
  | false => simp [decodeCmd_of_not_legal hl, accessOf]
  | true =>
    obtain h | h := decodeCmd_of_legal hl
    · have hne : decodeCmd cw ≠ .reservedIllegal cw := fun e => by simp [e, accessOf] at h
      simp [h, hne]
    · simp [h]

/-! ### The opcode map and the assembler lines -/

/-- A reserved OP value is in no row of the opcode map (R74, R76). -/
theorem legal_of_reservedOp {cw : CmdWord} (h : reservedOp (cwOp cw) = true) : legal cw = false := by
  rw [Bool.eq_false_iff]
  intro hl
  obtain ⟨ho, -⟩ | ho | ⟨hop, -⟩ := legal_iff.1 hl
  · obtain hop | hop | hop | hop | hop | hop | hop | hop := scalar_or_page_op _ ho <;> simp [hop, reservedOp] at h
  · obtain hop | hop | hop | hop | hop | hop := block_op _ ho <;> simp [hop, reservedOp] at h
  · simp [hop, reservedOp] at h

/-- Settles O4: each row is the word of its own command. -/
theorem opcodeMapNamesEachCommand : Obligations.OpcodeMapNamesEachCommand := by
  unfold Obligations.OpcodeMapNamesEachCommand
  intro w n a op h
  have row {cw : CmdWord} (i : Instr) := @decodeCmd_of_commandWord i cw
  exact ⟨row (.wr8 a w) rfl rfl, row (.rd8 a w) rfl rfl, row (.wr16 a w) rfl rfl, row (.rd16 a w) rfl rfl,
    row (.wr32 a w) rfl rfl, row (.rd32 a w) rfl rfl, row (.wrblk8 a n w) rfl rfl, row (.rdblk8 a n w) rfl rfl,
    row (.wrblk16 a n w) rfl rfl, row (.rdblk16 a n w) rfl rfl, row (.wrblk32 a n w) rfl rfl,
    row (.rdblk32 a n w) rfl rfl, row (.wrpage a w) rfl rfl, row (.rdpage a w) rfl rfl,
    fun hlow hhigh => row (.init a h) (wellFormed_init h hlow hhigh) rfl,
    fun hop => decodeCmd_of_not_legal (legal_of_reservedOp (by simpa using hop))⟩

/-- Settles O8: the line's OP is the opcode of the command it names, its ignored fields 0. -/
theorem assembledLinesDecode : Obligations.AssembledLinesDecode := by
  unfold Obligations.AssembledLinesDecode
  intro a v n wd h
  have line {l : AsmLine} (i : Instr) := @decodeCmd_of_commandWord i (assemble l)
  exact ⟨fun hlow hhigh => line (.init a h) (wellFormed_init h hlow hhigh) rfl, line (.rd8 a 0) rfl rfl,
    line (.rd16 a 0) rfl rfl, line (.rd32 a 0) rfl rfl, line (.wr8 a v) rfl rfl, line (.wr16 a v) rfl rfl,
    line (.wr32 a v) rfl rfl, line (.rdblk8 a n 0) rfl rfl, line (.rdblk16 a n 0) rfl rfl,
    line (.rdblk32 a n 0) rfl rfl, line (.wrblk8 a n 0) rfl rfl, line (.wrblk16 a n 0) rfl rfl,
    line (.wrblk32 a n 0) rfl rfl, line (.rdpage a 0) rfl rfl, line (.wrpage a 0) rfl rfl⟩

/-- Settles O5: the OP of each row of the opcode map, sub-field by sub-field. -/
theorem opcodeIsKindWidthDirection : Obligations.OpcodeIsKindWidthDirection := by
  unfold Obligations.OpcodeIsKindWidthDirection
  intro i a cw ha hcw
  cases i with
  | init | reservedIllegal | devWrmr | devWrite | devRead | devRdmr => cases ha
  | _ => cases ha; cases hcw; exact cwOp_cmdWord ..

/-- Settles O6: a byte that decodes is its instruction's own byte. -/
theorem deviceBytesDecode : Obligations.DeviceBytesDecode := by
  unfold Obligations.DeviceBytesDecode
  intro b i
  constructor
  · intro h
    have hb := encode_of_decodeDev h
    cases i <;> cases hb <;> decide
  · rintro (⟨rfl, rfl⟩ | ⟨rfl, rfl⟩ | ⟨rfl, rfl⟩ | ⟨rfl, rfl⟩) <;> rfl

/-- Settles O7: the words are closed terms, and the decoder computes. -/
theorem specWordsDecode : Obligations.SpecWordsDecode := by
  unfold Obligations.SpecWordsDecode
  decide

end Sys2Proof
end

section
/-! The first byte of every frame the CORE opens (R83, R86), row by row of the FSM: O48 and O49; and the device
instructions at the start of a frame given by hand (R80): O50. -/

namespace Sys2Proof.Machine

open Sys2Proof Sys2Proof.Safety

/-! ### Heads of frames over the trace -/

/-- An event that may come right after a SEL: a byte sent there is INS_WRMR, INS_READ or INS_WRITE. -/
def opensFrame : Event → Bool
  | .xfer t => t == Config.insWrmr || t == Config.insWrite || t == Config.insRead
  | .xferKeep _ _ => false
  | _ => true

/-- After an event that is no SEL the heads are those of the rest. -/
theorem headsKnown_cons {e : Event} (he : e ≠ .sel) (tr : List Event) : headsKnown (e :: tr) = headsKnown tr := by
  cases e with
  | sel => exact absurd rfl he
  | _ => rfl

/-- After a SEL the next event opens the frame. -/
theorem headsKnown_sel_cons (e : Event) (tr : List Event) :
    headsKnown (.sel :: e :: tr) = (opensFrame e && headsKnown (e :: tr)) := by
  cases e <;> rfl

/-- One more event keeps the heads known, if it opens the frame where the last event is a SEL. -/
theorem headsKnown_append {tr : List Event} {e : Event} (h : headsKnown tr = true)
    (he : tr.getLast? = some .sel → opensFrame e = true) : headsKnown (tr ++ [e]) = true := by
  induction tr with
  | nil => cases e <;> rfl
  | cons x rest ih =>
    by_cases hx : x = .sel
    · subst hx
      cases rest with
      | nil => rw [List.singleton_append, headsKnown_sel_cons, he rfl]; cases e <;> rfl
      | cons y rest =>
        rw [headsKnown_sel_cons, Bool.and_eq_true] at h
        rw [List.cons_append, List.cons_append, headsKnown_sel_cons, h.1, Bool.true_and, ← List.cons_append]
        exact ih h.2 (by simpa using he)
    · rw [headsKnown_cons hx] at h
      rw [List.cons_append, headsKnown_cons hx]
      refine ih h fun hlast => he ?_
      rw [List.getLast?_cons, hlast]; rfl

/-! ### What the invariant says of each phase -/

/-- In these phases the next byte is the first of its frame. -/
def HeadPhase (p : Phase) : Prop := p = .mrcmp ∨ p = .mrOpc ∨ p = .dirb

/-- In these phases the frame's first byte has been sent. -/
def LaterPhase (p : Phase) : Prop := p = .mrVal ∨ p = .addr ∨ p = .dataLd ∨ p = .dataX ∨ p = .dataSt

section

variable {a : Access} {s t : State}

/-- A move with no event, to a phase of the same sort or to one that asks nothing. -/
theorem headsInv_of_silent (hs : HeadsInv s) (hdir : t.dirOpcodeMulti = s.dirOpcodeMulti) (htr : t.trace = s.trace)
    (hhead : HeadPhase t.ph → HeadPhase s.ph) (hlater : LaterPhase t.ph → LaterPhase s.ph) : HeadsInv t where
  dir := hdir.trans hs.dir
  heads := htr ▸ hs.heads
  first hp := htr ▸ hs.first (hhead hp)
  later hp := htr ▸ hs.later (hlater hp)

/-- A move with one event that may open a frame; it is a SEL exactly where the next byte is to be the first of its
frame. -/
theorem headsInv_of_event {e : Event} (hs : HeadsInv s) (hdir : t.dirOpcodeMulti = s.dirOpcodeMulti)
    (htr : t.trace = s.trace ++ [e]) (he : opensFrame e = true) (hhead : HeadPhase t.ph → e = .sel)
    (hlater : LaterPhase t.ph → e ≠ .sel) : HeadsInv t where
  dir := hdir.trans hs.dir
  heads := htr ▸ headsKnown_append hs.heads fun _ => he
  first hp := by simp [htr, hhead hp]
  later hp := by simpa [htr] using hlater hp

/-- A move with one event, whatever byte it carries, in a frame whose first byte has been sent. -/
theorem headsInv_of_laterEvent {e : Event} (hs : HeadsInv s) (hp : LaterPhase s.ph)
    (hdir : t.dirOpcodeMulti = s.dirOpcodeMulti) (htr : t.trace = s.trace ++ [e]) (hsel : e ≠ .sel)
    (hhead : ¬ HeadPhase t.ph) : HeadsInv t where
  dir := hdir.trans hs.dir
  heads := htr ▸ headsKnown_append hs.heads fun h => absurd h (hs.later hp)
  first h := absurd h hhead
  later _ := by simpa [htr] using hsel

/-! ### The rows of R120 -/

/-- With DIR_OPCODE_MULTI = 1 every data frame begins with its direction byte (R110). -/
theorem afterMode_of_dir (hdir : s.dirOpcodeMulti = true) : afterMode a s = .dirb := by
  simp [afterMode, usesDir, hdir]

theorem opensFrame_dirByte (a : Access) : opensFrame (.xfer (dirByte a)) = true := by
  unfold dirByte
  cases a.read <;> rfl

theorem headsInv_rowCheck (c : Cmd) (hcs : s.csAct = false) (hs : HeadsInv s) : HeadsInv (rowCheck c s) := by
  obtain ⟨st, h⟩ | ⟨-, -, h⟩ | ⟨a, -, -, h⟩ := rowCheck_eq c s
  · rw [h]
    exact headsInv_of_silent hs rfl rfl (by simp [HeadPhase]) (by simp [LaterPhase])
  · rw [h, doInit_of_deasserted hcs]
    exact headsInv_of_silent hs rfl rfl (by simp [HeadPhase]) (by simp [LaterPhase])
  · rw [h]
    exact headsInv_of_silent hs rfl rfl (by simp [HeadPhase]) (by simp [LaterPhase])

theorem headsInv_giveResponse (hs : HeadsInv s) (h : giveResponse s = some t) : HeadsInv t := by
  obtain ⟨r, -, rfl⟩ := giveResponse_cases h
  exact headsInv_of_event hs rfl rfl rfl (by simp [HeadPhase]) (by simp [LaterPhase])

/-- SEL begins a frame, and in the phase after it the frame's first byte is still to come. -/
theorem headsInv_csAssert (hs : HeadsInv s) (hcs : s.csAct = false)
    (hdir : t.dirOpcodeMulti = s.dirOpcodeMulti) (htr : t.trace = (csAssert s).trace) (hp : ¬ LaterPhase t.ph) :
    HeadsInv t :=
  headsInv_of_event hs hdir (e := .sel) (htr.trans (by simp [csAssert_trace, hcs])) rfl (fun _ => rfl)
    fun h => absurd h hp

/-- DESEL ends a frame. -/
theorem headsInv_csDeassert (hs : HeadsInv s) (hcs : s.csAct = true)
    (hdir : t.dirOpcodeMulti = s.dirOpcodeMulti) (htr : t.trace = (csDeassert s).trace) (hp : ¬ HeadPhase t.ph) :
    HeadsInv t :=
  headsInv_of_event hs hdir (e := .desel) (htr.trans (by simp [csDeassert_trace, hcs])) rfl (fun h => absurd h hp)
    fun _ => by simp

theorem headsInv_rowMrcmp (hs : HeadsInv s) (hp : s.ph = .mrcmp) : HeadsInv (rowMrcmp a s) := by
  obtain ⟨-, -, h⟩ | ⟨-, h⟩ := rowMrcmp_eq a s
  · rw [h]
    exact headsInv_of_silent hs rfl rfl (by simp [HeadPhase, hp]) (by simp [LaterPhase, afterMode_of_dir hs.dir])
  · rw [h]
    exact headsInv_of_silent hs rfl rfl (by simp [HeadPhase, hp]) (by simp [LaterPhase])

theorem headsInv_rowMrOpc (hs : HeadsInv s) (h : sendByte Config.insWrmr s = some t) : HeadsInv (t.goto .mrVal) := by
  obtain ⟨b, d, -, rfl⟩ := sendByte_reached h
  exact headsInv_of_event hs rfl rfl rfl (by simp [HeadPhase]) (by simp)

theorem headsInv_rowMrVal (hs : HeadsInv s) (hp : s.ph = .mrVal) (h : rowMrVal s = some t) : HeadsInv t := by
  obtain ⟨b, d, -, rfl⟩ := rowMrVal_eq h
  exact headsInv_of_laterEvent hs (by simp [LaterPhase, hp]) rfl rfl (by simp) (by simp [HeadPhase])

theorem headsInv_rowDirb (hs : HeadsInv s) (h : rowDirb a s = some t) : HeadsInv t := by
  obtain ⟨b, d, -, rfl⟩ := rowDirb_eq h
  exact headsInv_of_event hs rfl rfl (opensFrame_dirByte a) (by simp [HeadPhase]) (by simp)

theorem headsInv_rowAddr (hs : HeadsInv s) (hp : s.ph = .addr) (h : rowAddr a s = some t) : HeadsInv t := by
  obtain ⟨b, d, -, ⟨-, rfl⟩ | ⟨-, rfl⟩⟩ := rowAddr_eq h
  · exact headsInv_of_laterEvent hs (by simp [LaterPhase, hp]) rfl rfl (by simp)
      (by cases a.read <;> simp [HeadPhase])
  · exact headsInv_of_laterEvent hs (by simp [LaterPhase, hp]) rfl rfl (by simp) (by simp [HeadPhase, hp])

theorem headsInv_rowDataLd (hs : HeadsInv s) (hp : s.ph = .dataLd) (h : rowDataLd a s = some t) : HeadsInv t := by
  obtain ⟨-, rfl⟩ | ⟨-, e, rest, -, rfl⟩ := rowDataLd_eq h
  · exact headsInv_of_silent hs rfl rfl (by simp [HeadPhase]) (by simp [LaterPhase, hp])
  · exact headsInv_of_laterEvent hs (by simp [LaterPhase, hp]) rfl rfl (by simp) (by simp [HeadPhase])

theorem headsInv_rowDataXWrite (hs : HeadsInv s) (hp : s.ph = .dataX) (h : rowDataXWrite a s = some t) :
    HeadsInv t := by
  have hlater : LaterPhase s.ph := by simp [LaterPhase, hp]
  obtain ⟨b, d, -, ⟨-, rfl⟩ | ⟨-, -, rfl⟩ | ⟨-, -, rfl⟩⟩ := rowDataXWrite_eq h
  · exact headsInv_of_laterEvent hs hlater rfl rfl (by simp) (by simp [HeadPhase, hp])
  · exact headsInv_of_laterEvent hs hlater rfl rfl (by simp) (by simp [HeadPhase])
  · exact headsInv_of_laterEvent hs hlater rfl rfl (by simp) (by simp [HeadPhase])

theorem headsInv_rowDataXRead (hs : HeadsInv s) (hp : s.ph = .dataX) (h : rowDataXRead a s = some t) :
    HeadsInv t := by
  have hlater : LaterPhase s.ph := by simp [LaterPhase, hp]
  obtain ⟨r, b, d, -, ⟨-, rfl⟩ | ⟨-, -, rfl⟩ | ⟨-, -, rfl⟩⟩ := rowDataXRead_eq h
  · exact headsInv_of_laterEvent hs hlater rfl rfl (by simp) (by simp [HeadPhase, hp])
  · exact headsInv_of_laterEvent hs hlater rfl rfl (by simp) (by simp [HeadPhase])
  · exact headsInv_of_laterEvent hs hlater rfl rfl (by simp) (by simp [HeadPhase])

theorem headsInv_rowDataSt (hs : HeadsInv s) (hp : s.ph = .dataSt) (h : rowDataSt a s = some t) : HeadsInv t := by
  have hlater : LaterPhase s.ph := by simp [LaterPhase, hp]
  obtain ⟨r, -, ⟨-, rfl⟩ | ⟨-, rfl⟩⟩ := rowDataSt_eq h
  · exact headsInv_of_laterEvent hs hlater rfl rfl (by simp) (by simp [HeadPhase])
  · exact headsInv_of_laterEvent hs hlater rfl rfl (by simp) (by simp [HeadPhase])

/-! ### Every move -/

theorem headsInv_advance {c : Cmd} (hinv : Inv s) (hs : HeadsInv s) (h : advance c s = .go t) : HeadsInv t := by
  have hdir := (advance_rowFrame h).dirOpcodeMulti
  have hcs {p : Phase} (hp : s.ph = p) : s.csAct = selectedPhase p := hp ▸ hinv.line
  obtain ⟨hp, rfl⟩ | ⟨-, h⟩ | ⟨a, -, hrow⟩ := advance_cases h
  · exact headsInv_rowCheck c (hcs hp) hs
  · exact headsInv_giveResponse hs h
  · -- The rows in R120's order, from SEL to FIN.
    obtain ⟨hp, rfl⟩ | ⟨hp, rfl⟩ | ⟨-, u, hu, rfl⟩ | ⟨hp, h⟩ | ⟨hp, rfl⟩ | ⟨hp, rfl⟩ | ⟨-, h⟩ | ⟨hp, -, h⟩
      | ⟨hp, -, h⟩ | ⟨hp, -, -, h⟩ | ⟨hp, -, -, h⟩ | ⟨hp, -, -, -, h⟩ | ⟨hp, rfl⟩ := hrow
    · exact headsInv_csAssert hs (hcs hp) hdir rfl (by simp [LaterPhase])
    · exact headsInv_rowMrcmp hs hp
    · exact headsInv_rowMrOpc hs hu
    · exact headsInv_rowMrVal hs hp h
    · exact headsInv_csDeassert hs (hcs hp) hdir rfl (by simp [HeadPhase])
    · exact headsInv_csAssert hs (hcs hp) hdir rfl (by simp [rowMrResel, LaterPhase, afterMode_of_dir hs.dir])
    · exact headsInv_rowDirb hs h
    · exact headsInv_rowAddr hs hp h
    · exact headsInv_rowDataLd hs hp h
    · exact headsInv_rowDataXWrite hs hp h
    · exact headsInv_rowDataXRead hs hp h
    · exact headsInv_rowDataSt hs hp h
    · exact headsInv_csDeassert hs (hcs hp) hdir rfl (by simp [rowFin, HeadPhase])

/-- RESET, and the DESEL it may make, open no frame (R215; log 2). -/
theorem headsInv_coreReset (hs : HeadsInv s) : HeadsInv (coreReset s) where
  dir := hs.dir
  heads := by
    have hreset : headsKnown (s.trace ++ [.reset]) = true := headsKnown_append hs.heads fun _ => rfl
    rw [coreReset_trace, List.append_cons]
    split
    · exact headsKnown_append hreset fun _ => rfl
    · simpa using hreset
  first hp := by simp [State.reset] at hp
  later hp := by simp [State.reset] at hp

theorem keptInFlight_headsInv : KeptInFlight fun s => Inv s ∧ HeadsInv s where
  hand b s rest hw hs :=
    ⟨keptInFlight_inv.hand b s rest hw hs.1, headsInv_of_silent hs.2 rfl rfl id id⟩
  fetchWord s rest hs := ⟨keptInFlight_inv.fetchWord s rest hs.1, headsInv_of_silent hs.2 rfl rfl id id⟩
  accept cw s hp hs :=
    ⟨keptInFlight_inv.accept cw s hp hs.1,
      headsInv_of_event hs.2 rfl (accept_trace cw s) rfl (by simp [HeadPhase]) (by simp [LaterPhase])⟩
  advance s t hs h := ⟨keptInFlight_inv.advance s t hs.1 h, headsInv_advance hs.1 hs.2 h⟩
  wait s hs := ⟨keptInFlight_inv.wait s hs.1, headsInv_of_silent hs.2 rfl rfl id id⟩
  reset s hs := ⟨keptInFlight_inv.reset s hs.1, headsInv_coreReset hs.2⟩

end

/-- Settles O48: the trace is empty, and no frame is open. -/
theorem frameHeadsHoldAtReset : Obligations.FrameHeadsHoldAtReset where
  dir := rfl
  heads := rfl
  first hp := by simp [State.reset] at hp
  later hp := by simp [State.reset] at hp

/-- Settles O49: every move keeps the heads known, because in each phase the last event says whether a frame has just
begun. -/
theorem stepKeepsTheFrameHeads : Obligations.StepKeepsTheFrameHeads := by
  unfold Obligations.StepKeepsTheFrameHeads
  intro s t hinv hs h
  exact (keptInFlight_headsInv.of_step ⟨hinv, hs⟩ h).2

/-! ### Device instructions given by hand (R80) -/

/-- At the start of a frame an unmarked device takes the byte for an instruction (R63, R64, R66). -/
theorem byte_of_start {d : Device} (hb : d.bad = false) (hf : d.frame = .start) (tx : Byte) :
    d.byte tx = d.instruction tx := by
  simp [Device.byte, hb, hf]

/-- Settles O50: the byte is one transfer of the device, which decodes it to its instruction. -/
theorem deviceInstructionsOpenTheirFrame : Obligations.DeviceInstructionsOpenTheirFrame := by
  unfold Obligations.DeviceInstructionsOpenTheirFrame
  intro s hb hf
  have opens {i : Instr} {b : Byte} {d : Device} (hi : encode i = .devIns b)
      (hd : s.dev.instruction b = (0x00, d)) :
      exec i s = .next { s with dev := d, wireOut := s.wireOut ++ [0x00] } := by
    rw [exec_device hi, handByte, byte_of_start hb hf, hd]
  exact ⟨opens rfl rfl, opens rfl rfl, opens rfl rfl, opens rfl rfl⟩

end Sys2Proof.Machine
end

section
/-! What a command does not look at in its word (R72, R77): the FSM runs the same on the state with every ignored bit
set to 0, move by move; and O9. -/

namespace Sys2Proof

open Machine Safety

/-! ### A word with another WDATA -/

section

variable (cw : CmdWord) (w : Data)

@[simp] theorem cwOp_withWdata : cwOp (withWdata cw w) = cwOp cw := cwOp_cmdWord ..
@[simp] theorem cwAddr_withWdata : cwAddr (withWdata cw w) = cwAddr cw := cwAddr_cmdWord ..
@[simp] theorem cwCount_withWdata : cwCount (withWdata cw w) = cwCount cw := cwCount_cmdWord ..
@[simp] theorem cwWdata_withWdata : cwWdata (withWdata cw w) = w := cwWdata_cmdWord ..

@[simp] theorem withWdata_withWdata (w' : Data) : withWdata (withWdata cw w) w' = withWdata cw w' := by
  simp [withWdata]

variable {cw}

/-- LEGAL looks at WDATA for INIT only (R75). -/
theorem legal_withWdata (hop : cwOp cw ≠ 0x18) : legal (withWdata cw w) = legal cw := by
  rw [Bool.eq_iff_iff]
  simp only [legal_iff, cwOp_withWdata, cwCount_withWdata, hop, false_and]

/-- Which read or write command a word is does not depend on its WDATA (R74). -/
theorem accessOf_decodeCmd_withWdata (hop : cwOp cw ≠ 0x18) :
    accessOf (decodeCmd (withWdata cw w)) = accessOf (decodeCmd cw) := by
  have hlegal := legal_withWdata w hop
  cases hl : legal cw with
  | false => rw [decodeCmd_of_not_legal hl, decodeCmd_of_not_legal (hlegal.trans hl)]; rfl
  | true =>
    rw [hl] at hlegal
    obtain ⟨ho, -⟩ | ho | ⟨hinit, -⟩ := legal_iff.1 hl
    · obtain ho | ho | ho | ho | ho | ho | ho | ho := scalar_or_page_op _ ho
      all_goals simp [decodeCmd, hl, hlegal, ho, accessOf]
    · obtain ho | ho | ho | ho | ho | ho := block_op _ ho
      all_goals simp [decodeCmd, hl, hlegal, ho, accessOf]
    · exact absurd hinit hop

end

namespace Machine

/-! ### The state without the ignored bits -/

/-- What a read or write command uses of WDATA: a scalar write its value (R117), every other command nothing (R72). -/
def usedWdata (a : Access) (w : Data) : Data :=
  if a.kind = .scalar ∧ a.read = false then lowBytes w (elemBytes a) else 0

/-- What a command sends of EBUF: a scalar write's EBUF is WDATA (R117). -/
def usedEbuf (a : Access) (e : Data) : Data :=
  if a.kind = .scalar ∧ a.read = false then lowBytes e (elemBytes a) else e

/-- A state with every bit set to 0 at which the command in flight does not look. -/
def State.stripped (a : Access) (s : State) : State :=
  { s with
    cur := withWdata s.cur (usedWdata a s.curWdata)
    ebuf := usedEbuf a s.ebuf
    trace := (forgetWdata s).trace }

section

variable (a : Access) (s : State)

@[simp] theorem stripped_ph : (s.stripped a).ph = s.ph := rfl
@[simp] theorem stripped_ai : (s.stripped a).ai = s.ai := rfl
@[simp] theorem stripped_k : (s.stripped a).k = s.k := rfl
@[simp] theorem stripped_i : (s.stripped a).i = s.i := rfl
@[simp] theorem stripped_acc : (s.stripped a).acc = s.acc := rfl
@[simp] theorem stripped_ebuf : (s.stripped a).ebuf = usedEbuf a s.ebuf := rfl
@[simp] theorem stripped_m : (s.stripped a).m = s.m := rfl
@[simp] theorem stripped_mcV : (s.stripped a).mcV = s.mcV := rfl
@[simp] theorem stripped_mcVal : (s.stripped a).mcVal = s.mcVal := rfl
@[simp] theorem stripped_csAct : (s.stripped a).csAct = s.csAct := rfl
@[simp] theorem stripped_cfgInit : (s.stripped a).cfgInit = s.cfgInit := rfl
@[simp] theorem stripped_cfgCapKbit : (s.stripped a).cfgCapKbit = s.cfgCapKbit := rfl
@[simp] theorem stripped_cfgAddr3 : (s.stripped a).cfgAddr3 = s.cfgAddr3 := rfl
@[simp] theorem stripped_dirOpcodeMulti : (s.stripped a).dirOpcodeMulti = s.dirOpcodeMulti := rfl
@[simp] theorem stripped_rangeCheck : (s.stripped a).rangeCheck = s.rangeCheck := rfl
@[simp] theorem stripped_wdIn : (s.stripped a).wdIn = s.wdIn := rfl
@[simp] theorem stripped_rdReady : (s.stripped a).rdReady = s.rdReady := rfl
@[simp] theorem stripped_rspReady : (s.stripped a).rspReady = s.rspReady := rfl
@[simp] theorem stripped_bus : (s.stripped a).bus = s.bus := rfl
@[simp] theorem stripped_dev : (s.stripped a).dev = s.dev := rfl
@[simp] theorem stripped_resetIn : (s.stripped a).resetIn = s.resetIn := rfl
@[simp] theorem stripped_cur : (s.stripped a).cur = withWdata s.cur (usedWdata a s.curWdata) := rfl

@[simp] theorem stripped_curAddr : (s.stripped a).curAddr = s.curAddr := cwAddr_withWdata ..

@[simp] theorem elemCount_withWdata (cw : CmdWord) (w : Data) : elemCount a (withWdata cw w) = elemCount a cw := by
  simp [elemCount]

@[simp] theorem byteCount_withWdata (cw : CmdWord) (w : Data) : byteCount a (withWdata cw w) = byteCount a cw := by
  simp [byteCount]

@[simp] theorem inRange_withWdata (cw : CmdWord) (w : Data) (cap : Nat) :
    inRange a (withWdata cw w) cap = inRange a cw cap := by
  simp [inRange]

@[simp] theorem countersInRange_stripped : countersInRange a (s.stripped a) = countersInRange a s := by
  rw [countersInRange, stripped_cur, elemCount_withWdata]
  rfl

end

@[simp] theorem lowBytes_lowBytes (v : Data) (n : Nat) : lowBytes (lowBytes v n) n = lowBytes v n := by
  apply BitVec.eq_of_getLsbD_eq
  intro k hk
  simp only [getLsbD_lowBytes]
  cases decide (k < 32) <;> cases decide (k < 8 * n) <;> simp

theorem byteOf_lowBytes (v : Data) {n j : Nat} (hj : j < n) : byteOf (lowBytes v n) j = byteOf v j := by
  apply BitVec.eq_of_getLsbD_eq
  intro k hk
  rw [getLsbD_byteOf, getLsbD_byteOf, getLsbD_lowBytes]
  by_cases h : 8 * j + k < 32
  · simp [h, (by omega : 8 * j + k < 8 * n)]
  · simp [h, BitVec.getLsbD_of_ge v (8 * j + k) (by omega)]

theorem byteOf_usedEbuf (a : Access) (e : Data) {j : Nat} (hj : j < elemBytes a) :
    byteOf (usedEbuf a e) j = byteOf e j := by
  unfold usedEbuf
  split
  · exact byteOf_lowBytes e hj
  · rfl

/-- Setting WDATA to 0 in every ACCEPT twice is doing it once. -/
theorem forgetWdata_stripped (a : Access) (s : State) : forgetWdata (s.stripped a) = forgetWdata s := by
  have htrace : (forgetWdata (s.stripped a)).trace = (forgetWdata s).trace := by
    simp only [forgetWdata, State.stripped, List.map_map]
    refine List.map_congr_left fun e _ => ?_
    cases e <;> simp
  have hcur : (forgetWdata (s.stripped a)).cur = (forgetWdata s).cur := by simp [forgetWdata, State.stripped]
  calc forgetWdata (s.stripped a)
      = { forgetWdata s with
          cur := (forgetWdata (s.stripped a)).cur, trace := (forgetWdata (s.stripped a)).trace } := rfl
    _ = forgetWdata s := by rw [htrace, hcur]

section

variable {a : Access} {s : State}

/-! ### The shared operations do not look at those bits -/

theorem forgetWdata_trace_append {e : Event} (he : isAccept e = false) {t : State} (ht : t.trace = s.trace ++ [e]) :
    (forgetWdata t).trace = (forgetWdata s).trace ++ [e] := by
  simp only [forgetWdata, ht, List.map_append, List.map_cons, List.map_nil]
  cases e with
  | accept cw => cases he
  | _ => rfl

theorem stripped_emit {e : Event} (he : isAccept e = false) :
    (s.emit e).stripped a = (s.stripped a).emit e := by
  have htrace : (forgetWdata (s.emit e)).trace = (forgetWdata s).trace ++ [e] := forgetWdata_trace_append he rfl
  simp only [State.stripped, htrace]
  rfl

theorem stripped_onDevice (f : Device → Device) : (s.stripped a).onDevice f = (s.onDevice f).stripped a := by
  obtain ⟨rx, hb⟩ | hb := bus_cases s.bus
  · rw [State.onDevice_of_oracle hb, State.onDevice_of_oracle (by exact hb)]
  · rw [State.onDevice_of_device hb, State.onDevice_of_device (by exact hb)]
    rfl

theorem stripped_csAssert : csAssert (s.stripped a) = (csAssert s).stripped a := by
  have hdev := stripped_onDevice (a := a) (s := { s with csAct := true }) Device.select
  cases h : s.csAct with
  | true => rw [csAssert_of_asserted h, csAssert_of_asserted (by exact h)]
  | false =>
    rw [csAssert, csAssert, if_neg (by simp [h]), if_neg (by simp [h]), stripped_emit rfl, ← hdev]
    rfl

theorem stripped_csDeassert : csDeassert (s.stripped a) = (csDeassert s).stripped a := by
  have hdev := stripped_onDevice (a := a) (s := { s with csAct := false }) Device.deselect
  cases h : s.csAct with
  | true =>
    rw [csDeassert, csDeassert, if_pos h, if_pos (by exact h), stripped_emit rfl, ← hdev]
    rfl
  | false => rw [csDeassert_of_deasserted h, csDeassert_of_deasserted (by exact h)]

theorem stripped_checkFrame (t : Byte) : checkFrame a t (s.stripped a) = (checkFrame a t s).stripped a := by
  simp only [checkFrame, stripped_onDevice, stripped_dirOpcodeMulti, stripped_cfgAddr3, stripped_dev]
  split_ifs <;> rfl

theorem stripped_transfer (t : Byte) :
    transfer t (s.stripped a) = (transfer t s).map (Prod.map id (State.stripped a)) := by
  unfold transfer
  rw [stripped_bus]
  split <;> rfl

theorem stripped_sendByte (t : Byte) : sendByte t (s.stripped a) = (sendByte t s).map (State.stripped a) := by
  simp only [sendByte, stripped_transfer]
  cases transfer t s with
  | none => rfl
  | some p => exact congrArg some (stripped_emit rfl).symm

theorem stripped_recvByte (t : Byte) :
    recvByte t (s.stripped a) = (recvByte t s).map (Prod.map id (State.stripped a)) := by
  simp only [recvByte, stripped_transfer]
  cases transfer t s with
  | none => rfl
  | some p => exact congrArg (fun u => some (p.1, u)) (stripped_emit rfl).symm

theorem stripped_takeElement :
    takeElement (s.stripped a) = (takeElement s).map (Prod.map id (State.stripped a)) := by
  unfold takeElement
  rw [stripped_wdIn]
  split
  · rfl
  · next e rest _ => exact congrArg (fun u => some (e, u)) (stripped_emit (s := { s with wdIn := rest }) rfl).symm

theorem stripped_giveElement (e : Data) :
    giveElement e (s.stripped a) = (giveElement e s).map (State.stripped a) := by
  unfold giveElement
  rw [stripped_rdReady]
  split
  · rfl
  · next r _ => exact congrArg some (stripped_emit (s := { s with rdReady := r }) rfl).symm

theorem stripped_giveResponse : giveResponse (s.stripped a) = (giveResponse s).map (State.stripped a) := by
  unfold giveResponse
  rw [stripped_rspReady]
  split
  · rfl
  · next r _ => exact congrArg some (stripped_emit (s := { s with rspReady := r, ph := .idle }) rfl).symm

/-! ### Nor do the rows of R120 -/

theorem stripped_verdict (c : Cmd) (hop : cwOp s.cur ≠ 0x18) : verdict c (s.stripped a) = verdict c s := by
  simp only [verdict, stripped_cur, legal_withWdata _ hop, byteCount_withWdata, inRange_withWdata, stripped_cfgInit,
    stripped_rangeCheck, stripped_cfgCapKbit]

theorem stripped_rowCheck (hop : cwOp s.cur ≠ 0x18) :
    rowCheck (.access a) (s.stripped a) = (rowCheck (.access a) s).stripped a := by
  unfold rowCheck
  rw [stripped_verdict _ hop]
  split
  · rfl
  · next hv => exact absurd (verdict_eq_doInit.1 hv).2 (by simp)
  · rfl

theorem stripped_rowMrcmp : rowMrcmp a (s.stripped a) = (rowMrcmp a s).stripped a := by
  unfold rowMrcmp
  rw [stripped_mcV, stripped_mcVal, stripped_m]
  split_ifs <;> rfl

theorem stripped_rowMrVal : rowMrVal (s.stripped a) = (rowMrVal s).map (State.stripped a) := by
  simp only [rowMrVal, stripped_m, stripped_sendByte]
  cases sendByte s.m s <;> rfl

theorem stripped_rowMrResel : rowMrResel a (s.stripped a) = (rowMrResel a s).stripped a := by
  simp only [rowMrResel, stripped_csAssert]
  rfl

theorem stripped_rowDirb : rowDirb a (s.stripped a) = (rowDirb a s).map (State.stripped a) := by
  simp only [rowDirb, stripped_checkFrame, stripped_sendByte]
  cases sendByte (dirByte a) (checkFrame a (dirByte a) s) <;> rfl

theorem stripped_rowAddr : rowAddr a (s.stripped a) = (rowAddr a s).map (State.stripped a) := by
  unfold rowAddr
  rw [stripped_curAddr, stripped_ai, stripped_checkFrame, stripped_sendByte]
  obtain h | ⟨u, h⟩ := Option.eq_none_or_eq_some
    (sendByte (addrByte s.curAddr s.ai.toNat) (checkFrame a (addrByte s.curAddr s.ai.toNat) s))
  · rw [h]; rfl
  · rw [h, Option.map_some]; dsimp only; split_ifs <;> rfl

/-- A scalar write's element is as much of WDATA as it uses; a stream's element comes whole (R117). -/
theorem stripped_rowDataLd (hwrite : a.read = false) :
    rowDataLd a (s.stripped a) = (rowDataLd a s).map (State.stripped a) := by
  by_cases hk : a.kind = .scalar
  · have hload : usedEbuf a (cwWdata s.cur) = usedWdata a (cwWdata s.cur) := by
      simp [usedEbuf, usedWdata, hk, hwrite]
    simp [rowDataLd, hk, State.stripped, hload, forgetWdata, State.curWdata]
  · have huse (e : Data) : usedEbuf a e = e := by simp [usedEbuf, hk]
    simp only [rowDataLd, hk, if_false, stripped_takeElement]
    cases takeElement s with
    | none => rfl
    | some p => simp [State.stripped, huse, forgetWdata, State.curWdata]

theorem stripped_rowDataXWrite (hi : s.i.toNat < elemBytes a) :
    rowDataXWrite a (s.stripped a) = (rowDataXWrite a s).map (State.stripped a) := by
  unfold rowDataXWrite
  rw [stripped_ebuf, stripped_i, byteOf_usedEbuf a _ hi, stripped_k, stripped_cur, elemCount_withWdata,
    stripped_checkFrame, stripped_sendByte]
  obtain h | ⟨u, h⟩ := Option.eq_none_or_eq_some
    (sendByte (byteOf s.ebuf s.i.toNat) (checkFrame a (byteOf s.ebuf s.i.toNat) s))
  · rw [h]; rfl
  · rw [h, Option.map_some]; dsimp only; split_ifs <;> rfl

theorem stripped_rowDataXRead : rowDataXRead a (s.stripped a) = (rowDataXRead a s).map (State.stripped a) := by
  unfold rowDataXRead
  rw [stripped_i, stripped_acc, stripped_checkFrame, stripped_recvByte]
  obtain h | ⟨⟨r, u⟩, h⟩ := Option.eq_none_or_eq_some (recvByte Config.dummyTx (checkFrame a Config.dummyTx s))
  · rw [h]; rfl
  · rw [h, Option.map_some]; dsimp only [Prod.map, id]; split_ifs <;> rfl

theorem stripped_rowDataSt : rowDataSt a (s.stripped a) = (rowDataSt a s).map (State.stripped a) := by
  unfold rowDataSt
  rw [stripped_acc, stripped_k, stripped_cur, elemCount_withWdata, stripped_giveElement]
  obtain h | ⟨u, h⟩ := Option.eq_none_or_eq_some (giveElement (lowBytes s.acc (elemBytes a)) s)
  · rw [h]; rfl
  · rw [h, Option.map_some]; dsimp only; split_ifs <;> rfl

theorem stripped_rowFin : rowFin (s.stripped a) = (rowFin s).stripped a := by
  simp only [rowFin, stripped_csDeassert]
  rfl

/-- A move with a function applied to the state it goes to. -/
def Move.map (f : State → State) : Move → Move
  | .go s => .go (f s)
  | .hold => .hold
  | .stop x => .stop x

theorem Move.ofHandshake_map (f : State → State) (o : Option State) :
    Move.ofHandshake (o.map f) = (Move.ofHandshake o).map f := by
  cases o <;> rfl

/-- One row of the FSM on the stripped state is the same row, and its next state is the stripped one. -/
theorem stripped_advance (hop : cwOp s.cur ≠ 0x18) :
    advance (.access a) (s.stripped a) = (advance (.access a) s).map (State.stripped a) := by
  unfold advance
  rw [stripped_ph]
  cases s.ph with
  | idle | reserved => rfl
  | check => exact congrArg Move.go (stripped_rowCheck hop)
  | sel => exact congrArg (fun u => Move.go (u.goto .mrcmp)) stripped_csAssert
  | mrcmp => exact congrArg Move.go stripped_rowMrcmp
  | mrOpc =>
    simp only [stripped_sendByte, ← Move.ofHandshake_map, Option.map_map]
    rfl
  | mrVal => exact (congrArg Move.ofHandshake stripped_rowMrVal).trans (Move.ofHandshake_map ..)
  | mrDesel => exact congrArg (fun u => Move.go (u.goto .mrResel)) stripped_csDeassert
  | mrResel => exact congrArg Move.go stripped_rowMrResel
  | dirb => exact (congrArg Move.ofHandshake stripped_rowDirb).trans (Move.ofHandshake_map ..)
  | addr =>
    simp only [stripped_ai, stripped_rowAddr, Move.ofHandshake_map]
    split <;> rfl
  | dataLd =>
    by_cases hread : a.read = true
    · simp only [if_pos hread]; rfl
    · simp only [if_neg hread, stripped_rowDataLd (Bool.eq_false_iff.2 hread), Move.ofHandshake_map]
  | dataX =>
    simp only [countersInRange_stripped]
    split
    · next hc =>
      simp only [stripped_rowDataXWrite (countersInRange_iff.1 hc).1, stripped_rowDataXRead, ← Move.ofHandshake_map]
      split <;> rfl
    · rfl
  | dataSt =>
    simp only [countersInRange_stripped, stripped_rowDataSt, Move.ofHandshake_map]
    split <;> rfl
  | fin => exact congrArg Move.go stripped_rowFin
  | rsp => exact (congrArg Move.ofHandshake stripped_giveResponse).trans (Move.ofHandshake_map ..)

/-! ### Every move, and a whole command -/

theorem stripped_cutWrite (hop : cwOp s.cur ≠ 0x18) (d : Device) : cutWrite (s.stripped a) d = cutWrite s d := by
  have hsent (a' : Access) : bytesSent a' (s.stripped a) = bytesSent a' s := rfl
  simp only [cutWrite, stripped_cur, accessOf_decodeCmd_withWdata _ hop, hsent, stripped_cfgAddr3, stripped_curAddr,
    byteCount_withWdata]

/-- Nothing of the CUR after reset is ignored (R38). -/
theorem withWdata_reset (a : Access) :
    withWdata State.reset.cur (usedWdata a (cwWdata State.reset.cur)) = State.reset.cur := by
  have hzero : usedWdata a 0 = 0 := by simp [usedWdata, lowBytes]
  rw [(by decide : cwWdata State.reset.cur = 0), hzero]
  decide

/-- What a reset leaves does not depend on the ignored bits either (R215, R216). -/
theorem stripped_coreReset (hop : cwOp s.cur ≠ 0x18) :
    coreReset (s.stripped a) = (coreReset s).stripped a := by
  have hdev : ((s.stripped a).onDevice (cutDevice (s.stripped a))).dev = (s.onDevice (cutDevice s)).dev := by
    have hcut : cutDevice (s.stripped a) = cutDevice s := by
      funext d
      simp only [cutDevice, stripped_cutWrite hop, stripped_csAct]
      rfl
    rw [hcut, stripped_onDevice, stripped_dev]
  have htrace : (forgetWdata (coreReset s)).trace =
      (forgetWdata s).trace ++ (.reset :: if s.csAct then [.desel] else []) := by
    cases hcs : s.csAct <;> simp [forgetWdata, hcs]
  have hebuf : usedEbuf a (coreReset s).ebuf = (coreReset s).ebuf := by
    simp [usedEbuf, lowBytes, State.reset]
  conv_rhs => rw [State.stripped, State.curWdata, coreReset_cur, withWdata_reset, hebuf, htrace]
  rw [coreReset, hdev]
  rfl

theorem stripped_tick (hop : cwOp s.cur ≠ 0x18) :
    tick (.access a) (s.stripped a) = onNext (State.stripped a) (tick (.access a) s) := by
  unfold tick
  rw [stripped_resetIn, stripped_coreReset hop, stripped_advance hop]
  split
  · rfl
  · cases advance (.access a) s <;> rfl

theorem stripped_halted (hop : cwOp s.cur ≠ 0x18) :
    halted (.access a) (s.stripped a) = halted (.access a) s := by
  unfold halted
  rw [stripped_ph, stripped_resetIn, stripped_advance hop]
  cases advance (.access a) s <;> rfl

/-- No move makes a word an INIT: CUR stays, or a reset sets it to 0 (R122, R215). -/
theorem tick_cwOp {c : Cmd} {t : State} (hop : cwOp s.cur ≠ 0x18) (h : tick c s = .next t) : cwOp t.cur ≠ 0x18 := by
  obtain ⟨-, rfl⟩ | ⟨-, u, hu, rfl⟩ | ⟨-, -, rfl⟩ := tick_cases h
  · exact (by decide : cwOp State.reset.cur ≠ 0x18)
  · rw [State.passTime_cur, (advance_rowFrame hu).cur]; exact hop
  · exact hop

/-- A run of the stripped state is the same run, with the stripped end. -/
theorem stripped_run (n : Nat) (hop : cwOp s.cur ≠ 0x18) :
    run n (.access a) (s.stripped a) = onNext (State.stripped a) (run n (.access a) s) := by
  induction n generalizing s with
  | zero => rfl
  | succ n ih =>
    unfold run
    rw [stripped_halted hop, stripped_tick hop]
    split
    · rfl
    · cases ht : tick (.access a) s with
      | next u => exact ih (tick_cwOp hop ht)
      | fault f => rfl
      | refused r => rfl

end

theorem onNext_onNext {f g : State → State} (h : ∀ s, f (g s) = f s) (o : Host.Outcome State Fault Refusal) :
    onNext f (onNext g o) = onNext f o := by
  cases o with
  | next s => exact congrArg Host.Outcome.next (h s)
  | fault r | refused r => rfl

section

variable {a : Access} {s : State} {ad : Addr} {n : Count} {op : Byte} {w w' : Data}

/-- An accepted command looks the same, stripped, with every WDATA of which it uses the same. -/
theorem stripped_accept (hw : usedWdata a w = usedWdata a w') :
    (accept (cmdWord w n ad op) s).stripped a = (accept (cmdWord w' n ad op) s).stripped a := by
  have hword (v v' : Data) : withWdata (cmdWord v n ad op) v' = cmdWord v' n ad op := by simp [withWdata]
  simp [State.stripped, accept, State.curWdata, forgetWdata, hword, hw]

/-- On an idle CORE a read or write command ends as its run from the stripped state does. -/
theorem exec_stripped {i : Instr} (hi : commandWord i = some (cmdWord w n ad op)) (ha : accessOf i = some a)
    (hop : op ≠ 0x18) (hidle : s.ph = .idle) :
    onNext forgetWdata (exec i s) =
      onNext forgetWdata (run (moveBound s) (.access a) ((accept (cmdWord w n ad op) s).stripped a)) := by
  have hcur : cwOp (accept (cmdWord w n ad op) s).cur ≠ 0x18 := by simpa using hop
  rw [exec_command hi, execute_idle hidle, cmdOf_eq_access.2 ha, stripped_run _ hcur,
    onNext_onNext (forgetWdata_stripped a)]

/-- Two commands that differ only in what they do not use of WDATA end alike (R72, R77). -/
theorem exec_same_usedWdata {i i' : Instr} (hi : commandWord i = some (cmdWord w n ad op))
    (hi' : commandWord i' = some (cmdWord w' n ad op)) (ha : accessOf i = some a) (ha' : accessOf i' = some a)
    (hop : op ≠ 0x18) (hw : usedWdata a w = usedWdata a w') (hidle : s.ph = .idle) :
    onNext forgetWdata (exec i s) = onNext forgetWdata (exec i' s) := by
  rw [exec_stripped hi ha hop hidle, exec_stripped hi' ha' hop hidle, stripped_accept hw]

end

/-! ### Fields that must be 0 (R75, R77) -/

theorem not_legal_of_count {cw : CmdWord}
    (hop : (cwOp cw).toNat ≤ 5 ∨ cwOp cw = 0x10 ∨ cwOp cw = 0x11 ∨ cwOp cw = 0x18) (hcount : cwCount cw ≠ 0) :
    legal cw = false := by
  have hblock : ¬ (8 ≤ (cwOp cw).toNat ∧ (cwOp cw).toNat ≤ 13) := by
    obtain h | h | h | h := hop
    · omega
    all_goals rw [h]; decide
  rw [Bool.eq_false_iff, Ne, legal_iff]
  rintro (⟨-, h⟩ | h | ⟨-, h, -⟩)
  · exact hcount h
  · exact hblock h
  · exact hcount h

theorem not_legal_of_init_wdata {cw : CmdWord} (hop : cwOp cw = 0x18) (hw : (cwWdata cw).extractLsb' 1 31 ≠ 0) :
    legal cw = false := by
  rw [Bool.eq_false_iff, Ne, legal_iff, hop]
  rintro (⟨h, -⟩ | h | ⟨-, -, h, -⟩)
  · revert h; decide
  · revert h; decide
  · exact hw h

/-- The low bytes of two words are the same where their low bits are. -/
theorem lowBytes_congr {v v' : Data} {n : Nat} (hn : n ≤ 4) (h : v.extractLsb' 0 (8 * n) = v'.extractLsb' 0 (8 * n)) :
    lowBytes v n = lowBytes v' n := by
  have hlow (x : Data) : x.setWidth (8 * n) = x.extractLsb' 0 (8 * n) := BitVec.setWidth_eq_extractLsb' (by omega)
  rw [lowBytes, lowBytes, hlow, hlow, h]

/-- Settles O9: LEGAL refuses the control fields; the runs of two commands that use the same of WDATA have the same
stripped start. -/
theorem ignoredFieldsHaveNoEffect : Obligations.IgnoredFieldsHaveNoEffect := by
  unfold Obligations.IgnoredFieldsHaveNoEffect
  refine ⟨fun cw => not_legal_of_count, fun cw => not_legal_of_init_wdata, fun s ad n w w' hidle => ⟨?_, ?_, ?_, ?_⟩⟩
  · rintro make (rfl | rfl | rfl | rfl | rfl)
    all_goals exact exec_same_usedWdata rfl rfl rfl rfl (by decide) rfl hidle
  · rintro make (rfl | rfl | rfl | rfl | rfl | rfl)
    all_goals exact exec_same_usedWdata rfl rfl rfl rfl (by decide) rfl hidle
  · exact fun hw => exec_same_usedWdata rfl rfl rfl rfl (by decide) (lowBytes_congr (n := 1) (by decide) hw) hidle
  · exact fun hw => exec_same_usedWdata rfl rfl rfl rfl (by decide) (lowBytes_congr (n := 2) (by decide) hw) hidle

end Machine

end Sys2Proof
end

section
/-! What one row of the FSM does to the offered words, the mode cache, the chip-select line and the trace (R108, R120,
R122, R123), and the statements of 40_transaction.md that follow: O27, O30, O31, O32, O37, O44 and O45. -/

namespace Sys2Proof.Machine

open Sys2Proof Sys2Proof.Safety

/-! ### What a row does -/

/-- The rows that make no event while the line is as its phase has it: CHECK, MRCMP, DATA_LD of a scalar (R123). -/
def Silent (c : Cmd) (s : State) : Prop :=
  s.ph = .check ∨ s.ph = .mrcmp ∨ s.ph = .dataLd ∧ ∃ a, c = .access a ∧ a.kind = .scalar

/-- What a row does to the offered words (R122), the mode cache (R108, R24), the line (R120) and the trace (R123).
A field that a row's written-out next state shows is read off by its default proof. -/
structure RowEffect (c : Cmd) (s t : State) : Prop where
  cmdIn : t.cmdIn = s.cmdIn := by simp
  accepts : t.trace.countP isAccept = s.trace.countP isAccept := by
    simp [isAccept, apply_ite (List.countP isAccept)]
  cache : (t.mcV = s.mcV ∧ t.mcVal = s.mcVal)
    ∨ (s.ph = .mrVal ∧ t.trace = s.trace ++ [.xfer s.m] ∧ t.mcV = true ∧ t.mcVal = s.m)
    ∨ (s.ph = .check ∧ c = .init ∧ t.mcV = false ∧ t.mcVal = 0x00) := by simp
  line : s.csAct = selectedPhase s.ph → t.csAct = selectedPhase t.ph := by simp_all [selectedPhase]
  silent : s.csAct = selectedPhase s.ph → (t.trace = s.trace ↔ Silent c s) := by simp_all [selectedPhase, Silent]

/-- Among CHECK's verdicts only DO_INIT writes the cache (R155). -/
theorem rowCheck_rowEffect {c : Cmd} {s : State} (hp : s.ph = .check) : RowEffect c s (rowCheck c s) := by
  obtain ⟨st, h⟩ | ⟨-, rfl, h⟩ | ⟨a, -, -, h⟩ := rowCheck_eq c s
  · rw [h]; exact {}
  · rw [h]
    exact { cache := .inr (.inr ⟨hp, rfl, by simp, by simp⟩) }
  · rw [h]; exact {}

/-- Among the rows after CHECK only MR_VAL writes the cache, with the byte it sends (R108). -/
theorem advance_rowEffect {c : Cmd} {s t : State} (h : advance c s = .go t) : RowEffect c s t := by
  obtain ⟨hp, rfl⟩ | ⟨hp, h⟩ | ⟨a, rfl, hrow⟩ := advance_cases h
  · exact rowCheck_rowEffect hp
  · obtain ⟨r, -, rfl⟩ := giveResponse_cases h
    exact {}
  · -- The rows in R120's order, from SEL to FIN.
    obtain ⟨hp, rfl⟩ | ⟨hp, rfl⟩ | ⟨hp, u, hu, rfl⟩ | ⟨hp, h⟩ | ⟨hp, rfl⟩ | ⟨hp, rfl⟩ | ⟨hp, h⟩ | ⟨hp, -, h⟩
      | ⟨hp, -, h⟩ | ⟨hp, -, -, h⟩ | ⟨hp, -, -, h⟩ | ⟨hp, -, -, -, h⟩ | ⟨hp, rfl⟩ := hrow
    · exact {}
    · have hsel := afterMode_selected a s
      obtain ⟨-, -, h⟩ | ⟨-, h⟩ := rowMrcmp_eq a s
      · rw [h]; exact {}
      · rw [h]; exact {}
    · obtain ⟨b, d, -, rfl⟩ := sendByte_reached hu
      exact {}
    · obtain ⟨b, d, -, rfl⟩ := rowMrVal_eq h
      exact { cache := .inr (.inl ⟨hp, rfl, rfl, rfl⟩) }
    · exact {}
    · have hsel := afterMode_selected a s
      unfold rowMrResel
      exact {}
    · obtain ⟨b, d, -, rfl⟩ := rowDirb_eq h
      exact {}
    · obtain ⟨b, d, -, ⟨-, rfl⟩ | ⟨-, rfl⟩⟩ := rowAddr_eq h
      · exact { line := by cases a.read <;> simp_all [selectedPhase] }
      · exact {}
    · obtain ⟨hk, rfl⟩ | ⟨hk, e, rest, -, rfl⟩ := rowDataLd_eq h
      · exact {}
      · exact {}
    · obtain ⟨b, d, -, ⟨-, rfl⟩ | ⟨-, -, rfl⟩ | ⟨-, -, rfl⟩⟩ := rowDataXWrite_eq h
      · exact {}
      · exact {}
      · exact {}
    · obtain ⟨r, b, d, -, ⟨-, rfl⟩ | ⟨-, -, rfl⟩ | ⟨-, -, rfl⟩⟩ := rowDataXRead_eq h
      · exact {}
      · exact {}
      · exact {}
    · obtain ⟨r, -, ⟨-, rfl⟩ | ⟨-, rfl⟩⟩ := rowDataSt_eq h
      · exact {}
      · exact {}
    · unfold rowFin
      exact {}

/-! ### Where the FSM waits -/

section

variable {a : Access} {s : State}

theorem rowMrVal_eq_none : rowMrVal s = none ↔ s.bus = .oracle [] := by
  unfold rowMrVal
  split
  · next h => simp [sendByte_eq_none.1 h]
  · next h => simp [← sendByte_eq_none (t := s.m), h]

theorem rowDirb_eq_none : rowDirb a s = none ↔ s.bus = .oracle [] := by
  unfold rowDirb
  rw [← checkFrame_bus a (dirByte a), ← sendByte_eq_none (t := dirByte a)]
  split
  · next h => simp [h]
  · next h => simp [h]

theorem rowAddr_eq_none : rowAddr a s = none ↔ s.bus = .oracle [] := by
  unfold rowAddr
  rw [← checkFrame_bus a (addrByte s.curAddr s.ai.toNat), ← sendByte_eq_none (t := addrByte s.curAddr s.ai.toNat)]
  split
  · next h => simp [h]
  · next h => rw [h]; split <;> simp

theorem rowDataXWrite_eq_none : rowDataXWrite a s = none ↔ s.bus = .oracle [] := by
  unfold rowDataXWrite
  rw [← checkFrame_bus a (byteOf s.ebuf s.i.toNat), ← sendByte_eq_none (t := byteOf s.ebuf s.i.toNat)]
  split
  · next h => simp [h]
  · next h => rw [h]; split_ifs <;> simp

theorem rowDataXRead_eq_none : rowDataXRead a s = none ↔ s.bus = .oracle [] := by
  unfold rowDataXRead
  rw [← checkFrame_bus a Config.dummyTx, ← recvByte_eq_none (t := Config.dummyTx)]
  split
  · next h => simp [h]
  · next h => rw [h]; split_ifs <;> simp

theorem rowDataLd_eq_none : rowDataLd a s = none ↔ a.kind ≠ .scalar ∧ s.wdIn = [] := by
  unfold rowDataLd
  rw [← takeElement_eq_none]
  split
  · next hk => simp [hk]
  · next hk =>
    split
    · next h => simp [h, hk]
    · next h => simp [h]

theorem rowDataSt_eq_none : rowDataSt a s = none ↔ s.rdReady.take = none := by
  unfold rowDataSt
  rw [← giveElement_eq_none (e := lowBytes s.acc (elemBytes a))]
  split
  · next h => simp [h]
  · next h => rw [h]; split <;> simp

end

/-- R120, R123: the FSM waits in IDLE, for the HOST to take the response, for the BUS, for a write element, or for the
HOST to take a read element. -/
theorem advance_eq_hold {c : Cmd} {s : State} (h : advance c s = .hold) :
    s.ph = .idle ∨ (s.ph = .rsp ∧ s.rspReady.take = none)
      ∨ ∃ a, c = .access a
        ∧ ((bytePending s.ph = true ∧ s.bus = .oracle [])
          ∨ (s.ph = .dataLd ∧ a.read = false ∧ a.kind ≠ .scalar ∧ s.wdIn = [])
          ∨ (s.ph = .dataSt ∧ s.rdReady.take = none)) := by
  unfold advance at h
  cases hp : s.ph <;> rw [hp] at h
  case idle => exact .inl rfl
  case rsp => exact .inr (.inl ⟨rfl, giveResponse_eq_none.1 (Move.ofHandshake_hold h)⟩)
  case check | reserved => cases h
  all_goals
    obtain ⟨a, rfl⟩ : ∃ a, c = .access a := by
      cases c with
      | access a => exact ⟨a, rfl⟩
      | init | illegal => cases h
    refine .inr (.inr ⟨a, rfl, ?_⟩)
    dsimp only at h
  case sel | mrcmp | mrDesel | mrResel | fin => cases h
  case mrOpc => exact .inl ⟨rfl, sendByte_eq_none.1 (Option.map_eq_none_iff.1 (Move.ofHandshake_hold h))⟩
  case mrVal => exact .inl ⟨rfl, rowMrVal_eq_none.1 (Move.ofHandshake_hold h)⟩
  case dirb => exact .inl ⟨rfl, rowDirb_eq_none.1 (Move.ofHandshake_hold h)⟩
  case addr =>
    split at h
    · cases h
    · exact .inl ⟨rfl, rowAddr_eq_none.1 (Move.ofHandshake_hold h)⟩
  case dataLd =>
    split at h
    · cases h
    · next hread =>
      obtain ⟨hkind, hw⟩ := rowDataLd_eq_none.1 (Move.ofHandshake_hold h)
      exact .inr (.inl ⟨rfl, by simpa using hread, hkind, hw⟩)
  case dataX =>
    split at h
    · have hrow := Move.ofHandshake_hold h
      split at hrow
      · exact .inl ⟨rfl, rowDataXRead_eq_none.1 hrow⟩
      · exact .inl ⟨rfl, rowDataXWrite_eq_none.1 hrow⟩
    · cases h
  case dataSt =>
    split at h
    · exact .inr (.inr ⟨rfl, rowDataSt_eq_none.1 (Move.ofHandshake_hold h)⟩)
    · cases h

/-- R223: where the FSM waits with the command in CUR, the line as its phase has it, it waits for an agent. -/
theorem waitsForAgent_of_hold {s : State} (hidle : s.ph ≠ .idle) (hline : s.csAct = selectedPhase s.ph)
    (h : advance (cmdOf (decodeCmd s.cur)) s = .hold) : waitsForAgent s := by
  obtain hp | ⟨hp, hrsp⟩ | ⟨a, hc, hwait⟩ := advance_eq_hold h
  · exact absurd hp hidle
  · exact .inr (.inr (.inr ⟨by simp [rspValid, hp], hrsp⟩))
  · have hflight : s.flight = some a := cmdOf_eq_access.1 hc
    obtain ⟨hp, hbus⟩ | ⟨hp, hread, hkind, hw⟩ | ⟨hp, hrd⟩ := hwait
    · obtain hp | hp | hp | hp | hp : s.ph = .mrOpc ∨ s.ph = .mrVal ∨ s.ph = .dirb ∨ s.ph = .addr ∨ s.ph = .dataX := by
        simpa [bytePending, or_assoc] using hp
      all_goals exact .inl ⟨by rw [hline, hp]; rfl, by simp [xferReq, xferTx, hp, hflight], hbus⟩
    · exact .inr (.inl ⟨by rw [hline, hp]; rfl, by simp [wdReady, hflight, hp, hread, hkind], hw⟩)
    · exact .inr (.inr (.inl ⟨by rw [hline, hp]; rfl, by simp [rdValid, hp], hrd⟩))

/-! ### One move (O27, O30) -/

/-- Settles O27: every row makes at most one event; with the line as its phase has it, none only in its silent rows. -/
theorem aMovePerformsAtMostOneEvent : Obligations.AMovePerformsAtMostOneEvent := by
  unfold Obligations.AMovePerformsAtMostOneEvent
  refine ⟨fun c s t hreset h => ?_, fun s t hs hreset hidle h => ?_, fun c s hreset h => by simp [tick, hreset, h]⟩
  · obtain ⟨hr, -⟩ | ⟨-, u, hu, rfl⟩ | ⟨-, -, rfl⟩ := tick_cases h
    · exact absurd hr hreset
    · simpa using advance_trace hu
    · exact .inl rfl
  · obtain ⟨hr, -⟩ | ⟨-, u, hu, rfl⟩ | ⟨-, hhold, rfl⟩ := tick_cases h
    · exact absurd hr hreset
    · rw [State.passTime_trace, (advance_rowEffect hu).silent hs.line]
      simp [Silent, hu, cmdOf_eq_access]
    · simp [hhold]

/-- Settles O30: MR_VAL's row and CHECK's INIT row are the only ones that write the cache. -/
theorem onlyTheModeByteAndInitWriteTheCache : Obligations.OnlyTheModeByteAndInitWriteTheCache := by
  unfold Obligations.OnlyTheModeByteAndInitWriteTheCache
  intro c s t hreset h
  obtain ⟨hr, -⟩ | ⟨-, u, hu, rfl⟩ | ⟨-, -, rfl⟩ := tick_cases h
  · exact absurd hr hreset
  · exact (advance_rowEffect hu).cache
  · exact .inl ⟨rfl, rfl⟩

/-! ### Taking a command (O32) -/

/-- Neither a row, nor a wait, nor a reset takes a command. -/
theorem tick_accepts {c : Cmd} {s t u : State}
    (hs : t.trace.countP isAccept = s.trace.countP isAccept ∧ t.cmdIn = s.cmdIn) (h : tick c t = .next u) :
    u.trace.countP isAccept = s.trace.countP isAccept ∧ u.cmdIn = s.cmdIn := by
  obtain ⟨-, rfl⟩ | ⟨-, v, hv, rfl⟩ | ⟨-, -, rfl⟩ := tick_cases h
  · cases hcs : t.csAct <;> simpa [hcs, isAccept] using hs
  · have hrow := advance_rowEffect hv
    exact ⟨hrow.accepts.trans hs.1, hrow.cmdIn.trans hs.2⟩
  · exact hs

theorem run_accepts {n : Nat} {c : Cmd} {s t : State} (h : run n c s = .next t) :
    t.trace.countP isAccept = s.trace.countP isAccept ∧ t.cmdIn = s.cmdIn :=
  run_relates (R := fun s t => t.trace.countP isAccept = s.trace.countP isAccept ∧ t.cmdIn = s.cmdIn)
    (fun _ => ⟨rfl, rfl⟩) (fun _ _ _ => tick_accepts) h

/-- Settles O32: the run of a command makes no ACCEPT; only an idle CORE makes one before it runs. -/
theorem commandsAreTakenOnlyWhenIdle : Obligations.CommandsAreTakenOnlyWhenIdle := by
  unfold Obligations.CommandsAreTakenOnlyWhenIdle
  refine ⟨fun i s t hbusy h => ?_, fun i cw s t hidle hcw h => ?_⟩
  · obtain ⟨cw, -, he⟩ | ⟨b, -, he⟩ := exec_cases i s
    · obtain ⟨hidle, -⟩ | ⟨-, -, h⟩ | ⟨-, -, rfl⟩ := execute_cases (he ▸ h)
      · exact absurd hidle hbusy
      · exact run_accepts h
      · exact ⟨rfl, rfl⟩
    · cases he.symm.trans h
      exact ⟨rfl, rfl⟩
  · rw [exec_command hcw, execute_idle hidle] at h
    have haccept : (accept cw s).trace = s.trace ++ [.accept cw] := by simp
    refine ⟨?_, (keptByMoves_prefix_trace _).of_run (haccept ▸ List.prefix_rfl) h⟩
    rw [(run_accepts h).1, haccept]
    simp [isAccept]

/-! ### One step (O31, O45) and the chip-select primitives (O37) -/

/-- Settles O31: nextInstr's cases, and the quiet moves where it answers none. -/
theorem stepRunsTheDecodedInstruction : Obligations.StepRunsTheDecodedInstruction := by
  unfold Obligations.StepRunsTheDecodedInstruction
  refine ⟨fun s cw rest hw hr hp hq => ?_, fun s hw hr hp => ?_, fun s b rest i hw hf hb => ?_,
    fun s hw hr => ?_, fun s hw hr hp hq => ?_⟩
  · simp [step, nextInstr, hw, hr, hp, hq]
  · simp [step, nextInstr, hw, hr, hp]
  · simp [step, nextInstr, hw, hf, hb]
  · simp [step, nextInstr, quietMove, hw, hr]
  · simp [step, nextInstr, quietMove, hw, hr, hp, hq, passTime_of_noReset hr]

/-- Settles O45: the FSM has no row for PH = 15, and the run of any latched command makes its first move there. -/
theorem reservedPhaseFaults : Obligations.ReservedPhaseFaults := by
  unfold Obligations.ReservedPhaseFaults
  intro s hp hw hr
  have hbusy : s.ph ≠ .idle := by simp [hp]
  have hadvance (c : Cmd) : advance c s = .stop .unreachablePhase := by simp [advance, hp]
  have hstep : step s = exec (decodeCmd s.cur) s := stepRunsTheDecodedInstruction.2.1 s hw (by simp [hr]) hbusy
  have hbound : moveBound s = 524287 + 1 := by simp [moveBound, Config.maxMoves, hr]
  rw [hstep, exec_command (commandWord_decodeCmd s.cur), execute_resume hbusy rfl, hbound, run]
  simp [halted, tick, hp, hr, hadvance]

/-- Settles O37: a line that is as the primitive leaves it is left alone. -/
theorem chipSelectPrimitivesAreIdempotent : Obligations.ChipSelectPrimitivesAreIdempotent := by
  unfold Obligations.ChipSelectPrimitivesAreIdempotent
  intro s
  exact ⟨csAssert_of_asserted (csAssert_csAct s), csDeassert_of_deasserted (csDeassert_csAct s), csAssert_csAct s,
    csDeassert_csAct s, csAssert_trace s, csDeassert_trace s⟩

/-! ### No fault (O44) -/

theorem Move.ofHandshake_ne_stop (o : Option State) (f : Fault) : Move.ofHandshake o ≠ .stop f := by
  cases o <;> simp [Move.ofHandshake]

/-- R120: between CHECK and RSP a read or write command is in flight. -/
theorem inv_flight {s : State} (hs : Inv s) (hp : inFlight s.ph = true) :
    ∃ a, cmdOf (decodeCmd s.cur) = .access a ∧ phaseFits a s = true := by
  cases ha : s.flight with
  | none =>
    have ha' : accessOf (decodeCmd s.cur) = none := ha
    have hflight := hs.flight
    simp [flightLegal, ha', hp] at hflight
  | some a => exact ⟨a, cmdOf_eq_access.2 ha, (inv_inFlight hs ha hp).2⟩

/-- R121: under the invariant the FSM has a row for every state of the command in CUR. -/
theorem advance_ne_stop {s : State} (hs : Inv s) (f : Fault) : advance (cmdOf (decodeCmd s.cur)) s ≠ .stop f := by
  intro h
  unfold advance at h
  cases hp : s.ph <;> rw [hp] at h
  case idle | check => cases h
  case rsp => exact Move.ofHandshake_ne_stop _ _ h
  all_goals
    obtain ⟨a, hc, hfits⟩ := inv_flight hs (by rw [hp]; rfl)
    rw [hc] at h
    dsimp only at h
  case sel | mrcmp | mrDesel | mrResel | fin => cases h
  case mrOpc | mrVal | dirb => exact Move.ofHandshake_ne_stop _ _ h
  case addr =>
    obtain ⟨-, hai⟩ := (phaseFits_addr hp).1 hfits
    split at h
    · next h3 =>
      have hle : addrBytes s.cfgAddr3 ≤ 3 := by cases s.cfgAddr3 <;> decide
      rw [h3] at hai
      exact absurd hai (by simpa using hle)
    · exact Move.ofHandshake_ne_stop _ _ h
  case dataLd =>
    obtain ⟨-, hread, -⟩ := (phaseFits_dataLd hp).1 hfits
    rw [hread] at h
    exact Move.ofHandshake_ne_stop _ _ h
  case dataX =>
    obtain ⟨-, hcount⟩ := (phaseFits_dataX hp).1 hfits
    rw [if_pos hcount] at h
    exact Move.ofHandshake_ne_stop _ _ h
  case dataSt =>
    obtain ⟨-, hread, hkind, -, hcount⟩ := (phaseFits_dataSt hp).1 hfits
    rw [if_pos ⟨hread, hkind, hcount⟩] at h
    exact Move.ofHandshake_ne_stop _ _ h
  case reserved => simp [phaseFits, hp] at hfits

/-- A move of the running command, or of an idle CORE, answers a next state. -/
theorem tick_next {c : Cmd} {s : State} (hs : KeptInFlight.Running Inv c s) : ∃ t, tick c s = .next t := by
  obtain ⟨hs, hc⟩ := hs
  unfold tick
  split
  · exact ⟨_, rfl⟩
  · split
    · exact ⟨_, rfl⟩
    · exact ⟨_, rfl⟩
    · next f hstop =>
      obtain hidle | rfl := hc
      · simp [advance, hidle] at hstop
      · exact absurd hstop (advance_ne_stop hs f)

theorem run_next {c : Cmd} (n : Nat) {s : State} (hs : KeptInFlight.Running Inv c s) : ∃ t, run n c s = .next t := by
  induction n generalizing s with
  | zero => exact ⟨s, rfl⟩
  | succ n ih =>
    cases hh : halted c s with
    | true => exact ⟨s, run_halted hh⟩
    | false =>
      obtain ⟨u, hu⟩ := tick_next hs
      rw [run_tick hh hu]
      exact ih (keptInFlight_inv.of_tick hs hu)

/-- A command word that has been fetched runs to a next state. -/
theorem exec_next (cw : CmdWord) {s : State} (hs : Inv s) : ∃ t, exec (decodeCmd cw) s = .next t := by
  rw [exec_command (commandWord_decodeCmd cw), execute]
  split
  · next hidle => exact run_next _ ⟨inv_accept cw hs hidle, .inr rfl⟩
  · split
    · next hcur => exact run_next _ ⟨hs, .inr (by rw [hcur])⟩
    · exact ⟨s, rfl⟩

/-- Settles O44: every move keeps the invariant, and under it the FSM always has a row for the command in CUR. -/
theorem noFaultFromTheInvariant : Obligations.NoFaultFromTheInvariant := by
  unfold Obligations.NoFaultFromTheInvariant
  intro s hs
  unfold step
  split
  · next i u hu =>
    obtain ⟨b, rest, -, -, hb, rfl⟩ | ⟨-, -, -, cw, rest, -, rfl, rfl⟩ | ⟨-, -, -, rfl, rfl⟩ := nextInstr_cases hu
    · exact ⟨_, exec_device (encode_of_decodeDev hb) _⟩
    · exact exec_next cw (keptInFlight_inv.fetchWord s rest hs)
    · exact exec_next _ hs
  · exact ⟨_, rfl⟩

end Sys2Proof.Machine
end

section
/-! The phase FSM waits where the procedure has no end (R119, R120, R223): wherever an operation of the procedure answers
none, the FSM's moves lead to a state in which it holds. -/

namespace Sys2Proof.Machine

open Sys2Proof Sys2Proof.Safety

/-! ### The moves to a wait -/

/-- The FSM, running the command c, comes from s in at most n moves to a busy state in which it waits, with no reset
coming. -/
def LeadsToWait (c : Cmd) (n : Nat) (s : State) : Prop :=
  ∃ t, Leads c n s t ∧ t.resetIn = none ∧ t.ph ≠ .idle ∧ advance c t = .hold

namespace LeadsToWait

variable {c : Cmd} {n n' : Nat} {s t : State}

/-- A handshake that has not completed. -/
theorem of_handshake {o : Option State} (hreset : s.resetIn = none) (hidle : s.ph ≠ .idle)
    (hrow : advance c s = .ofHandshake o) (h : o = none) : LeadsToWait c 0 s :=
  ⟨s, .refl c s, hreset, hidle, by rw [hrow, h]; rfl⟩

theorem after (h : Leads c n s t) (h' : LeadsToWait c n' t) : LeadsToWait c (n + n') s :=
  have ⟨u, hu, hhold⟩ := h'
  ⟨u, h.trans hu, hhold⟩

theorem mono (h : LeadsToWait c n s) (hn : n ≤ n') : LeadsToWait c n' s :=
  have ⟨u, hu, hhold⟩ := h
  ⟨u, hu.mono hn, hhold⟩

/-- The run ends where the FSM waits. -/
theorem run_eq (h : LeadsToWait c n s) (hn : n ≤ n') :
    ∃ t, run n' c s = .next t ∧ t.ph ≠ .idle ∧ advance c t = .hold := by
  obtain ⟨t, ⟨m, hm, hrun⟩, hreset, hidle, hhold⟩ := h
  obtain ⟨l, rfl⟩ : ∃ l, n' = l + m := ⟨n' - m, by omega⟩
  refine ⟨t, ?_, hidle, hhold⟩
  rw [hrun, run_halted (by simp [halted, hreset, hhold])]

end LeadsToWait

/-- A sequence of two operations has no end in the first, or in the second. -/
theorem none_of_bind_eq_none {α β : Type} {o : Option α} {f : α → Option β} (h : o.bind f = none) :
    o = none ∨ ∃ x, o = some x ∧ f x = none := by
  cases o with
  | none => exact .inl rfl
  | some x => exact .inr ⟨x, rfl, h⟩

/-! ### The data frame, row by row -/

section

variable {a : Access} {cw : CmdWord} {s u v : State} {q : Sequencer}

/-- DATA_X waits for the BUS. -/
theorem waits_dataX (hu : Underway a cw u) (hi : q.i.toNat < elemBytes a) (hk : q.k.toNat < elemCount a cw)
    (hbus : u.bus = .oracle []) : LeadsToWait (.access a) 0 (u.withSeq { q with ph := .dataX }) := by
  have hcount : countersInRange a (u.withSeq { q with ph := .dataX }) = true :=
    countersInRange_iff.2 ⟨hi, by rw [withSeq_cur, hu.cur]; exact hk⟩
  refine .of_handshake hu.noReset (by simp) (if_pos hcount) ?_
  split
  · exact rowDataXRead_eq_none.2 hbus
  · exact rowDataXWrite_eq_none.2 hbus

/-- DATA_LD waits for a write element. -/
theorem waits_dataLd (hu : Underway a cw u) (hwrite : a.read = false)
    (h : (if a.kind = .scalar then some (u.curWdata, u) else takeElement u) = none) :
    LeadsToWait (.access a) 0 (u.withSeq { q with ph := .dataLd }) := by
  refine .of_handshake hu.noReset (by simp) (if_neg (by simp [hwrite])) (rowDataLd_eq_none.2 ?_)
  split at h
  · cases h
  · next hk =>
    have hw := takeElement_eq_none.1 h
    exact ⟨hk, hw⟩

/-- DATA_ST waits for the HOST to take the element. -/
theorem waits_dataSt (hu : Underway a cw u) (hread : a.read = true) (hkind : a.kind ≠ .scalar) (hi : q.i = 0)
    (hk : q.k.toNat < elemCount a cw) {e : Data} (h : giveElement e u = none) :
    LeadsToWait (.access a) 0 (u.withSeq { q with ph := .dataSt }) := by
  have hcount : countersInRange a (u.withSeq { q with ph := .dataSt }) = true :=
    countersInRange_iff.2 ⟨by simp [hi, elemBytes_pos], by rw [withSeq_cur, hu.cur]; exact hk⟩
  have hrd := giveElement_eq_none.1 h
  exact .of_handshake hu.noReset (by simp) (if_pos ⟨hread, hkind, hcount⟩) (rowDataSt_eq_none.2 hrd)

/-! ### The data phase -/

/-- The bytes of a write element from index I on. -/
theorem waits_sendElement {n : Nat} (hu : Underway a cw u) (hwrite : a.read = false)
    (hi : q.i.toNat + n = elemBytes a) (hk : q.k.toNat < elemCount a cw)
    (h : sendBytes ((List.range' q.i.toNat n).map (byteOf q.ebuf)) u = none) :
    LeadsToWait (.access a) n (u.withSeq { q with ph := .dataX }) := by
  induction n generalizing u q with
  | zero => cases h
  | succ n ih =>
    obtain hnone | ⟨v, hv, hrest⟩ := none_of_bind_eq_none h
    · exact (waits_dataX hu (by omega) hk (sendByte_eq_none.1 hnone)).mono (by omega)
    · have hpos : n ≠ 0 := fun h0 => by subst h0; cases hrest
      have hnext : q.i.toNat + 1 < elemBytes a := by omega
      have hrow := leads_sendByte hu hwrite (by omega) hk hv
      rw [if_pos hnext] at hrow
      have hi' := toNat_next_byte hnext
      have hwait := ih (q := { q with i := q.i + 1 }) (hu.of_sendByte hv) (by rw [hi']; omega) hk
        (by rw [hi']; exact hrest)
      exact (hwait.after hrow).mono (by omega)

/-- The bytes of a read element from index I on. -/
theorem waits_recvElement {n : Nat} (hu : Underway a cw u) (hread : a.read = true)
    (hi : q.i.toNat + n = elemBytes a) (hk : q.k.toNat < elemCount a cw)
    (h : recvElement q.i.toNat q.acc u n = none) :
    LeadsToWait (.access a) n (u.withSeq { q with ph := .dataX }) := by
  induction n generalizing u q with
  | zero => cases h
  | succ n ih =>
    obtain hnone | ⟨⟨r, v⟩, hv, hrest⟩ := none_of_bind_eq_none h
    · exact (waits_dataX hu (by omega) hk (recvByte_eq_none.1 hnone)).mono (by omega)
    · have hpos : n ≠ 0 := fun h0 => by subst h0; cases hrest
      have hnext : q.i.toNat + 1 < elemBytes a := by omega
      have hrow := leads_recvByte hu hread (by omega) hk hv
      rw [if_pos hnext] at hrow
      have hi' := toNat_next_byte hnext
      have hwait := ih (q := { q with acc := setByte q.acc q.i.toNat r, i := q.i + 1 }) (hu.of_recvByte hv)
        (by rw [hi']; omega) hk (by rw [hi']; exact hrest)
      exact (hwait.after hrow).mono (by omega)

theorem underway_load {e : Data} (hu : Underway a cw u)
    (h : (if a.kind = .scalar then some (u.curWdata, u) else takeElement u) = some (e, v)) : Underway a cw v := by
  split at h
  · cases h; exact hu
  · exact hu.of_takeElement h

/-- The elements of a write from index K on. -/
theorem waits_writeElements {n : Nat} (hu : Underway a cw u) (hwrite : a.read = false) (hi : q.i = 0)
    (hk : q.k.toNat + n = elemCount a cw) (h : writeElements a u n = none) :
    LeadsToWait (.access a) (5 * n) (u.withSeq { q with ph := .dataLd }) := by
  induction n generalizing u q with
  | zero => cases h
  | succ n ih =>
    have hE := elemBytes_le a
    obtain hnone | ⟨⟨e, v⟩, hload, h⟩ := none_of_bind_eq_none h
    · exact (waits_dataLd hu hwrite hnone).mono (by omega)
    obtain hnone | ⟨w, hbytes, hrest⟩ := none_of_bind_eq_none h
    · have hv := underway_load hu hload
      have hwait := waits_sendElement (q := { q with ebuf := e }) (n := elemBytes a) hv hwrite
        (by simp [hi]) (show q.k.toNat < elemCount a cw by omega) (by simpa [hi, unpackLE, List.range_eq_range'] using hnone)
      exact (hwait.after (leads_takeElement (q := q) hu hwrite hload)).mono (by omega)
    · have hpos : n ≠ 0 := fun h0 => by subst h0; cases hrest
      have hmore : q.k.toNat + 1 < elemCount a cw := by omega
      obtain ⟨hw, helem⟩ := leads_writeElement hu hwrite hi (by omega) hload hbytes
      rw [if_pos hmore] at helem
      have hk' := toNat_next_element hmore
      have hwait := ih (q := { q with ebuf := e, k := q.k + 1 }) hw hi (by rw [hk']; omega) hrest
      exact (hwait.after helem).mono (by omega)

/-- The elements of a read from index K on. -/
theorem waits_readElements {n : Nat} (hu : Underway a cw u) (hread : a.read = true) (hi : q.i = 0) (hacc : q.acc = 0)
    (hk : q.k.toNat + n = elemCount a cw) (h : readElements a u n = none) :
    LeadsToWait (.access a) (5 * n) (u.withSeq { q with ph := .dataX }) := by
  induction n generalizing u q with
  | zero => cases h
  | succ n ih =>
    have hE := elemBytes_le a
    obtain hnone | ⟨⟨acc, v⟩, hbytes, h⟩ := none_of_bind_eq_none h
    · have hwait := waits_recvElement (q := q) (n := elemBytes a) hu hread (by simp [hi]) (by omega)
        (by simpa [hi, hacc] using hnone)
      exact hwait.mono (by omega)
    by_cases hkind : a.kind = .scalar
    · -- A scalar's one element goes to no agent.
      obtain rfl : n = 0 := by have := elemCount_scalar hkind cw; omega
      simp [deliver, hkind, readElements] at h
    simp only [deliver, if_neg hkind] at h
    obtain hnone | ⟨w, hgive, hrest⟩ := none_of_bind_eq_none h
    · obtain ⟨m, hm⟩ : ∃ m, elemBytes a = m + 1 := ⟨elemBytes a - 1, by have := elemBytes_pos a; omega⟩
      obtain ⟨hv, i, hrecv⟩ := leads_recvElement (n := m) (q := q) hu hread (by simp [hi, hm]) (by omega)
        (by rw [hi, hacc, ← hm]; exact hbytes)
      rw [if_neg hkind] at hrecv
      have hwait := waits_dataSt (q := { q with acc := acc, i := 0 }) hv hread hkind rfl
        (show q.k.toNat < elemCount a cw by omega) hnone
      exact (hwait.after hrecv).mono (by omega)
    · have hpos : n ≠ 0 := fun h0 => by subst h0; cases hrest
      have hmore : q.k.toNat + 1 < elemCount a cw := by omega
      obtain ⟨hw, helem⟩ := leads_readElement hu hread hkind hi hacc (by omega) hbytes hgive
      rw [if_pos hmore] at helem
      have hk' := toNat_next_element hmore
      have hwait := ih (q := { q with k := q.k + 1 }) hw hi hacc (by rw [hk']; omega) hrest
      exact (hwait.after helem).mono (by omega)

/-- The data phase, from its first row (R118). -/
theorem waits_dataPhase (hu : Underway a cw u) (h : dataPhase a u = none) :
    LeadsToWait (.access a) (5 * elemCount a cw) (u.withSeq (dataStart a q)) := by
  rw [dataPhase, hu.cur] at h
  cases hread : a.read with
  | false =>
    simp only [hread, Bool.false_eq_true, if_false] at h
    have hwait := waits_writeElements (q := dataStart a q) hu hread rfl (by simp [dataStart]) h
    simpa [dataStart, hread] using hwait
  | true =>
    simp only [hread, if_true] at h
    have hwait := waits_readElements (q := dataStart a q) hu hread rfl rfl (by simp [dataStart]) h
    simpa [dataStart, hread] using hwait

/-! ### The mode (R107) -/

/-- The moves of SET_MODE after SEL: MR_OPC or MR_VAL waits for the BUS. -/
theorem waits_setMode (hreset : s.resetIn = none) (h : setMode s.m (csAssert s) = none) :
    LeadsToWait (.access a) 3 (s.withSeq { q with ph := .sel }) := by
  have hreset' : (csAssert s).resetIn = none := by simpa using hreset
  unfold setMode at h
  split at h
  · cases h
  · next hmiss =>
    rw [csAssert_of_asserted (csAssert_csAct s), Option.map_eq_none_iff] at h
    have hmrcmp := (leads_sel (a := a) (q := q) hreset).trans (leads_mrcmp_miss hreset' (by simpa using hmiss))
    obtain hnone | ⟨u, hopc, h⟩ := none_of_bind_eq_none h
    · have hbus := sendByte_eq_none.1 hnone
      have hwait : LeadsToWait (.access a) 0 ((csAssert s).withSeq { q with ph := .mrOpc }) :=
        .of_handshake hreset' (by simp) rfl (Option.map_eq_none_iff.2 (sendByte_eq_none.2 hbus))
      exact (hwait.after hmrcmp).mono (by omega)
    · have hrow : Leads (.access a) 1 ((csAssert s).withSeq { q with ph := .mrOpc })
          (u.withSeq { q with ph := .mrVal }) := by
        refine .of_advance hreset' (by simp) ?_
        simp only [advance, withSeq_ph, sendByte_withSeq _ hopc]; rfl
      obtain hnone | ⟨w, -, hw⟩ := none_of_bind_eq_none h
      · have hbus := sendByte_eq_none.1 hnone
        have hwait : LeadsToWait (.access a) 0 (u.withSeq { q with ph := .mrVal }) :=
          .of_handshake ((sendByte_sameCommand hopc).resetIn.trans hreset') (by simp) rfl (rowMrVal_eq_none.2 hbus)
        exact (hwait.after (hmrcmp.trans hrow)).mono (by omega)
      · cases hw

/-! ### The direction byte and the address (R111, R112) -/

/-- ADDR waits for the BUS. -/
theorem waits_addr {t : Byte} (hreset : s.resetIn = none) (hai : q.ai ≠ 3)
    (h : sendByte t (checkFrame a t s) = none) : LeadsToWait (.access a) 0 (s.withSeq { q with ph := .addr }) :=
  have hbus : s.bus = .oracle [] := by simpa using sendByte_eq_none.1 h
  .of_handshake hreset (by simp) (if_neg hai) (rowAddr_eq_none.2 hbus)

/-- The address bytes from AI on, the first of them checked. -/
theorem waits_addrBytes {n : Nat} (hreset : s.resetIn = none) (hai : q.ai.toNat = n) (hn : n < 3)
    (h : sendBytes (addrBytesFrom s.curAddr n) (checkFrame a (addrByte s.curAddr n) s) = none) :
    LeadsToWait (.access a) n (s.withSeq { q with ph := .addr }) := by
  induction n generalizing s q with
  | zero =>
    obtain hnone | ⟨u, -, h⟩ := none_of_bind_eq_none h
    · exact waits_addr hreset (ai_ne_three hai hn) hnone
    · cases h
  | succ n ih =>
    obtain hnone | ⟨u, hu, h⟩ := none_of_bind_eq_none h
    · exact (waits_addr hreset (ai_ne_three hai hn) hnone).mono (by omega)
    · have h0 : q.ai ≠ 0 := fun e => by rw [e] at hai; exact absurd hai (by simp)
      have hrow := leads_addrByte hreset (ai_ne_three hai hn) (by rw [hai]; exact hu)
      rw [if_neg h0] at hrow
      have hunder := (underway_checkFrame hreset rfl _).of_sendByte hu
      have haddr : u.curAddr = s.curAddr := congrArg cwAddr hunder.cur
      have hpred := toNat_pred h0
      have hwait := ih (s := u) (q := { q with ai := q.ai - 1 }) hunder.noReset (by simp only; omega) (by omega)
        (by rw [checkFrame_of_settled hunder.settled, haddr]; exact h)
      exact (hwait.after hrow).mono (by omega)

/-- The address frame of a command. -/
theorem waits_frameAddress (hreset : s.resetIn = none)
    (h : frameAddress (checkFrame a ((addrFrame s.cfgAddr3 s.curAddr).headD 0) s) = none) :
    LeadsToWait (.access a) 3 (s.withSeq { q with ph := .addr, ai := firstAddrIndex s.cfgAddr3 }) := by
  have hfirst : (firstAddrIndex s.cfgAddr3).toNat < 3 := by cases s.cfgAddr3 <;> decide
  have hhead (n : Nat) : (addrBytesFrom s.curAddr n).headD 0 = addrByte s.curAddr n := by cases n <;> rfl
  have haddr (t : Byte) : (checkFrame a t s).curAddr = s.curAddr := congrArg cwAddr (by simp)
  rw [frameAddress, checkFrame_cfgAddr3, haddr, addrFrame_eq, hhead] at h
  exact (waits_addrBytes (q := { q with ai := firstAddrIndex s.cfgAddr3 }) hreset rfl hfirst h).mono (by omega)

/-- The head of the data frame: the direction byte, if the command sends one, and the address (R118). -/
def sendHead (a : Access) (s : State) : Option State :=
  (if usesDir a s.dirOpcodeMulti then sendByte (dirByte a) (checkFrame a (dirByte a) s)
    else some (checkFrame a ((addrFrame s.cfgAddr3 s.curAddr).headD 0) s)).bind frameAddress

/-- The registers when the head starts. -/
def headStart (a : Access) (s : State) (q : Sequencer) : Sequencer :=
  { q with ph := afterMode a s, ai := firstAddrIndex s.cfgAddr3 }

/-- DIRB sends the head's first byte. -/
theorem leads_dirb_of_headStart (hreset : s.resetIn = none) (hdir : usesDir a s.dirOpcodeMulti = true)
    (hv : sendByte (dirByte a) (checkFrame a (dirByte a) s) = some v) :
    Underway a s.cur v ∧ Leads (.access a) 1 (s.withSeq (headStart a s q))
      (v.withSeq { q with ph := .addr, ai := firstAddrIndex v.cfgAddr3 }) := by
  have hchecked : SameCommand s (checkFrame a (dirByte a) s) := {}
  have hsame := hchecked.trans (sendByte_sameCommand hv)
  have hrow := leads_dirb (q := { q with ai := firstAddrIndex s.cfgAddr3 }) hreset hv
  refine ⟨(underway_checkFrame hreset rfl _).of_sendByte hv, ?_⟩
  rwa [headStart, afterMode, if_pos hdir, hsame.cfgAddr3]

/-- DIRB and ADDR send the head. -/
theorem leads_sendHead (hreset : s.resetIn = none) (h : sendHead a s = some v) :
    Underway a s.cur v ∧ Leads (.access a) 4 (s.withSeq (headStart a s q)) (v.withSeq (dataStart a q)) := by
  obtain ⟨u, hu, hv⟩ := Option.bind_eq_some_iff.1 h
  split at hu
  · next hdir =>
    obtain ⟨hunder, hrow⟩ := leads_dirb_of_headStart (q := q) hreset hdir hu
    obtain ⟨hv, haddress⟩ := leads_frameAddress (a := a) (q := q) hunder.noReset
      (by rw [checkFrame_of_settled hunder.settled]; exact hv)
    exact ⟨hunder.cur ▸ hv, (hrow.trans haddress).mono (by omega)⟩
  · next hdir =>
    cases hu
    obtain ⟨hv, haddress⟩ := leads_frameAddress (q := q) hreset hv
    rw [headStart, afterMode, if_neg hdir]
    exact ⟨hv, haddress.mono (by omega)⟩

/-- DIRB or ADDR waits for the BUS. -/
theorem waits_sendHead (hreset : s.resetIn = none) (h : sendHead a s = none) :
    LeadsToWait (.access a) 4 (s.withSeq (headStart a s q)) := by
  obtain hnone | ⟨u, hu, hv⟩ := none_of_bind_eq_none h
  · split at hnone
    · next hdir =>
      rw [headStart, afterMode, if_pos hdir]
      have hbus : s.bus = .oracle [] := by simpa using sendByte_eq_none.1 hnone
      have hwait : LeadsToWait (.access a) 0
          (s.withSeq { q with ph := .dirb, ai := firstAddrIndex s.cfgAddr3 }) :=
        .of_handshake hreset (by simp) rfl (rowDirb_eq_none.2 hbus)
      exact hwait.mono (by omega)
    · cases hnone
  · split at hu
    · next hdir =>
      obtain ⟨hunder, hrow⟩ := leads_dirb_of_headStart (q := q) hreset hdir hu
      have hwait := waits_frameAddress (a := a) (q := q) hunder.noReset
        (by rw [checkFrame_of_settled hunder.settled]; exact hv)
      exact (hwait.after hrow).mono (by omega)
    · next hdir =>
      cases hu
      rw [headStart, afterMode, if_neg hdir]
      exact (waits_frameAddress (q := q) hreset hv).mono (by omega)

/-! ### TRANSACT (R118) -/

/-- From SEL on the FSM waits where TRANSACT has no end. -/
theorem waits_transact (hreset : s.resetIn = none) (h : transact a s = none) :
    LeadsToWait (.access a) (10 + 5 * elemCount a s.cur) (s.withSeq { q with ph := .sel }) := by
  obtain hnone | ⟨s₁, h₁, h⟩ := none_of_bind_eq_none h
  · exact (waits_setMode hreset hnone).mono (by omega)
  have hmode := leads_setMode (a := a) (q := q) hreset h₁
  have hsel : SameCommand s (csAssert s) := {}
  have hs₁ := hsel.trans (setMode_sameCommand h₁)
  have hreset₁ : s₁.resetIn = none := hs₁.resetIn.trans hreset
  have haddr : s₁.curAddr = s.curAddr := congrArg cwAddr hs₁.cur
  rw [← hs₁.dirOpcodeMulti, ← hs₁.cfgAddr3, ← haddr, ← Option.bind_assoc] at h
  obtain hnone | ⟨s₃, h₃, h⟩ := none_of_bind_eq_none (o := sendHead a s₁) h
  · exact ((waits_sendHead hreset₁ hnone).after hmode).mono (by omega)
  obtain ⟨hs₃, hhead⟩ := leads_sendHead (q := q) hreset₁ h₃
  rw [hs₁.cur] at hs₃
  have hdata := waits_dataPhase (q := q) hs₃ (Option.map_eq_none_iff.1 h)
  exact (hdata.after (hmode.trans hhead)).mono (by omega)

end

end Sys2Proof.Machine
end

section
/-! EXECUTE as the procedure and as the phase FSM (R119, R120): O25 and O26. -/

namespace Sys2Proof.Machine

open Sys2Proof Sys2Proof.Safety

/-! ### The response (R192) -/

section

variable {a : Access} {c : Cmd} {s v w : State} {q : Sequencer} {st : Status} {x : Data}

/-- RSP: the HOST takes the response. -/
theorem leads_respond {t : State} (hreset : s.resetIn = none) (h : respondWith st x s = some t) :
    Leads c 1 (State.withSeq { s with rspSt := st, rspRd := x } { q with ph := .rsp })
      (t.withSeq { q with ph := .idle }) := by
  have hgive := giveResponse_withSeq { q with ph := .rsp } h
  exact .of_advance hreset (by simp) (congrArg Move.ofHandshake hgive)

/-- RSP waits for the HOST. -/
theorem waits_respond (hreset : s.resetIn = none) (h : respondWith st x s = none) :
    LeadsToWait c 0 (State.withSeq { s with rspSt := st, rspRd := x } { q with ph := .rsp }) := by
  have hrsp := giveResponse_eq_none.1 h
  exact .of_handshake hreset (by simp) rfl (giveResponse_eq_none.2 hrsp)

theorem respondWith_ph {t : State} (h : respondWith st x s = some t) : t.ph = .idle := by
  obtain ⟨r, -, rfl⟩ := giveResponse_cases h
  rfl

/-- FIN: the frame ends (R103). -/
theorem leads_fin (hreset : v.resetIn = none) (hq : q.ph = .fin) :
    Leads (.access a) 1 (v.withSeq q) (State.withSeq { csDeassert v with rspSt := .ok } { q with ph := .rsp }) := by
  refine .of_advance hreset (by simp [hq]) ?_
  simp only [advance, withSeq_ph, hq, rowFin, csDeassert_withSeq]
  rfl

/-! ### CHECK (R119, R190) -/

/-- CHECK answers the command at once, as the procedure does, or both start the transaction. -/
theorem check_cases (c : Cmd) (s : State) :
    (∃ (st : Status) (u : State) (q : Sequencer), u.resetIn = s.resetIn ∧ procedure c s = respondWith st 0 u
        ∧ rowCheck c s = State.withSeq { u with rspSt := st, rspRd := 0 } { q with ph := .rsp })
      ∨ ∃ (a : Access) (u : State) (q : Sequencer), c = .access a ∧ 0 < byteCount a u.cur ∧ u.resetIn = s.resetIn
        ∧ procedure c s = (transact a u).bind (fun w => respondWith .ok w.rspRd w)
        ∧ rowCheck c s = u.withSeq { q with ph := .sel } := by
  unfold procedure rowCheck verdict
  split
  · exact .inl ⟨_, s, s.seq, rfl, rfl, rfl⟩
  · cases c with
    | illegal => exact .inl ⟨_, s, s.seq, rfl, rfl, rfl⟩
    | init => exact .inl ⟨_, doInit s, (doInit s).seq, by simp, rfl, rfl⟩
    | access a =>
      dsimp only
      split_ifs with hinit hcount hrange
      · exact .inl ⟨_, s, s.seq, rfl, rfl, rfl⟩
      · exact .inl ⟨_, s, s.seq, rfl, rfl, rfl⟩
      · exact .inl ⟨_, s, s.seq, rfl, rfl, rfl⟩
      · exact .inr ⟨a, { s with m := requestedMode a s.cfgHoldEn, rspRd := 0 }, s.seq, rfl, Nat.pos_of_ne_zero hcount,
          rfl, rfl, rfl⟩

theorem leads_rowCheck (hreset : s.resetIn = none) (hp : s.ph = .check) : Leads c 1 s (rowCheck c s) := by
  refine .of_advance hreset (by simp [hp]) ?_
  unfold advance
  rw [hp]

/-! ### The whole command -/

/-- Thirteen moves and at most five for each element are no more than a run has (R121). -/
theorem moves_le_maxMoves (a : Access) (cw : CmdWord) : 13 + 5 * elemCount a cw ≤ Config.maxMoves := by
  have hcount := elemCount_lt a cw
  simp only [Config.maxMoves]
  omega

/-- R120: where EXECUTE completes, the FSM comes to the same state from CHECK, the sequencer's registers apart. -/
theorem leads_procedure {t : State} (hreset : s.resetIn = none) (hp : s.ph = .check) (h : procedure c s = some t) :
    t.ph = .idle ∧ ∃ q : Sequencer, Leads c Config.maxMoves s (t.withSeq { q with ph := .idle }) := by
  have hcheck := leads_rowCheck (c := c) hreset hp
  obtain ⟨st, u, q, hu, hproc, hrow⟩ | ⟨a, u, q, rfl, hmoves, hu, hproc, hrow⟩ := check_cases c s
  · rw [hproc] at h
    rw [hrow] at hcheck
    exact ⟨respondWith_ph h, q, (hcheck.trans (leads_respond (hu.trans hreset) h)).mono (by decide)⟩
  · rw [hproc] at h
    rw [hrow] at hcheck
    obtain ⟨w, hw, ht⟩ := Option.bind_eq_some_iff.1 h
    obtain ⟨v, q', hfin, rfl, hv, htransact⟩ := leads_transact (q := q) (hu.trans hreset) hmoves hw
    have hbound := moves_le_maxMoves a u.cur
    exact ⟨respondWith_ph ht, q', ((hcheck.trans htransact).trans (leads_finish hv hfin ht)).mono (by omega)⟩

/-- R119, R223: where EXECUTE has no end, the FSM comes from CHECK to a wait. -/
theorem waits_procedure (hreset : s.resetIn = none) (hp : s.ph = .check) (h : procedure c s = none) :
    LeadsToWait c Config.maxMoves s := by
  have hcheck := leads_rowCheck (c := c) hreset hp
  obtain ⟨st, u, q, hu, hproc, hrow⟩ | ⟨a, u, q, rfl, hmoves, hu, hproc, hrow⟩ := check_cases c s
  · rw [hproc] at h
    rw [hrow] at hcheck
    exact ((waits_respond (hu.trans hreset) h).after hcheck).mono (by decide)
  · rw [hproc] at h
    rw [hrow] at hcheck
    have hbound := moves_le_maxMoves a u.cur
    obtain hnone | ⟨w, hw, hrsp⟩ := none_of_bind_eq_none h
    · exact ((waits_transact (hu.trans hreset) hnone).after hcheck).mono (by omega)
    · obtain ⟨v, q', hfin, rfl, hv, htransact⟩ := leads_transact (q := q) (hu.trans hreset) hmoves hw
      have hwait := waits_respond (c := .access a) (q := q') (by simpa using hv) hrsp
      exact (hwait.after ((hcheck.trans htransact).trans (leads_fin hv hfin))).mono (by omega)

/-- Settles O25: the FSM comes from CHECK to the procedure's state, and its run ends there. -/
theorem phaseFsmRealisesExecute : Obligations.PhaseFsmRealisesExecute := by
  unfold Obligations.PhaseFsmRealisesExecute
  intro i cw s u _ hcw hidle _ hreset h
  obtain ⟨hlast, q, hleads⟩ := leads_procedure (by simpa using hreset) rfl h
  have hrun : exec i s = .next (u.withSeq { q with ph := .idle }) := by
    rw [exec_command hcw, execute_idle hidle]
    exact hleads.run_of_idle rfl (Nat.le_add_right _ _)
  exact ⟨_, hrun, by simp [State.withoutScratch, State.withSeq, hlast]⟩

/-- The line is as its phase has it, with the word cw in CUR and no reset coming. -/
def LineFits (cw : CmdWord) (s : State) : Prop := s.resetIn = none ∧ s.cur = cw ∧ s.csAct = selectedPhase s.ph

theorem tick_lineFits {cw : CmdWord} {t : State} (hs : LineFits cw s) (h : tick c s = .next t) : LineFits cw t := by
  obtain ⟨hreset, hcur, hline⟩ := hs
  obtain ⟨hr, -⟩ | ⟨-, u, hu, rfl⟩ | ⟨-, -, rfl⟩ := tick_cases h
  · simp [hreset] at hr
  · have hframe := advance_rowFrame hu
    exact ⟨by simp [hframe.resetIn, hreset], hframe.cur.trans hcur, (advance_rowEffect hu).line hline⟩
  · exact ⟨by simp [hreset], hcur, hline⟩

/-- Settles O26: the FSM comes from CHECK to a wait, and the line there is as its phase has it. -/
theorem phaseFsmWaitsWhereExecuteWaits : Obligations.PhaseFsmWaitsWhereExecuteWaits := by
  unfold Obligations.PhaseFsmWaitsWhereExecuteWaits
  intro i cw s hwf hcw hidle hcs hreset h
  obtain ⟨t, hrun, hbusy, hhold⟩ :=
    (waits_procedure (by simpa using hreset) rfl h).run_eq (n' := moveBound s) (Nat.le_add_right _ _)
  have hstart : LineFits cw (accept cw s) := ⟨by simpa using hreset, rfl, hcs⟩
  obtain ⟨-, hcur, hline⟩ := run_keeps (fun _ _ => tick_lineFits) hstart hrun
  refine ⟨t, by rw [exec_command hcw, execute_idle hidle, hrun], waitsForAgent_of_hold hbusy hline ?_⟩
  rwa [hcur, decodeCmd_of_commandWord i hwf hcw]

end

end Sys2Proof.Machine
end

section
/-! The procedure TRANSACT with a BUS that answers given bytes (R107, R112, R116, R118): every transfer takes the next
answer, and nothing reaches the device. -/

namespace Sys2Proof.Machine

open Sys2Proof Sys2Proof.Safety

/-! ### Transfers -/

/-- A list of m + n bytes is m bytes and n more. -/
theorem exists_append_of_length {bs : List Byte} {m n : Nat} (h : bs.length = m + n) :
    ∃ xs ys, bs = xs ++ ys ∧ xs.length = m ∧ ys.length = n :=
  ⟨bs.take m, bs.drop m, by simp, by simp [h], by simp [h]⟩

/-- A state in which the BUS still has these answers to give and these events have been added. -/
def State.heard (s : State) (rest : List Byte) (evs : List Event) : State :=
  { s with bus := .oracle rest, trace := s.trace ++ evs }

section

variable (s : State) (rest : List Byte) (evs : List Event)

@[simp] theorem heard_bus : (s.heard rest evs).bus = .oracle rest := rfl
@[simp] theorem heard_csAct : (s.heard rest evs).csAct = s.csAct := rfl
@[simp] theorem heard_rspReady : (s.heard rest evs).rspReady = s.rspReady := rfl
@[simp] theorem heard_cur : (s.heard rest evs).cur = s.cur := rfl
@[simp] theorem heard_curAddr : (s.heard rest evs).curAddr = s.curAddr := rfl
@[simp] theorem heard_cfgAddr3 : (s.heard rest evs).cfgAddr3 = s.cfgAddr3 := rfl

@[simp] theorem heard_heard (rest' : List Byte) (evs' : List Event) :
    (s.heard rest evs).heard rest' evs' = s.heard rest' (evs ++ evs') := by
  simp [State.heard]

end

section

variable {a : Access} {cw : CmdWord} {s : State} {r : Byte} {rx rest : List Byte}

theorem heard_nil (hb : s.bus = .oracle rest) : s.heard rest [] = s := by
  simp [State.heard, ← hb]

theorem sendByte_oracle (hb : s.bus = .oracle (r :: rest)) (t : Byte) :
    sendByte t s = some (s.heard rest [.xfer t]) := by
  simp only [sendByte, transfer, hb]
  rfl

theorem recvByte_oracle (hb : s.bus = .oracle (r :: rest)) (t : Byte) :
    recvByte t s = some (r, s.heard rest [.xferKeep t r]) := by
  simp only [recvByte, transfer, hb]
  rfl

/-- Bytes sent take one answer each, which is discarded. -/
theorem sendBytes_oracle {bs : List Byte} (hb : s.bus = .oracle (rx ++ rest)) (hlen : rx.length = bs.length) :
    sendBytes bs s = some (s.heard rest (bs.map .xfer)) := by
  induction bs generalizing s rx with
  | nil =>
    obtain rfl := List.length_eq_zero_iff.1 hlen
    exact congrArg some (heard_nil hb).symm
  | cons b bs ih =>
    obtain ⟨r, rx, rfl⟩ := List.exists_cons_of_length_eq_add_one hlen
    rw [List.cons_append] at hb
    rw [sendBytes, sendByte_oracle hb, Option.bind_some, ih (heard_bus ..) (Nat.succ.inj hlen)]
    simp

/-- The bytes of a read element are the answers, each put in its place (R117). -/
theorem recvElement_oracle (hb : s.bus = .oracle (rx ++ rest)) (i : Nat) (acc : Data) :
    recvElement i acc s rx.length =
      some (setBytes i acc rx, s.heard rest (rx.map (.xferKeep Config.dummyTx))) := by
  induction rx generalizing s i acc with
  | nil => exact congrArg (fun u => some (acc, u)) (heard_nil hb).symm
  | cons r rx ih =>
    rw [List.cons_append] at hb
    rw [List.length_cons, recvElement, recvByte_oracle hb, Option.bind_some, ih (heard_bus ..)]
    simp [setBytes]

/-! ### The opening of a command -/

theorem csAssert_oracle (hb : s.bus = .oracle rest) (hcs : s.csAct = false) :
    csAssert s = State.heard { s with csAct := true } rest [.sel] := by
  rw [csAssert, if_neg (by simp [hcs]), State.onDevice_of_oracle (by exact hb), State.heard, ← hb]
  rfl

theorem csDeassert_oracle (hb : s.bus = .oracle rest) (hcs : s.csAct = true) :
    csDeassert s = State.heard { s with csAct := false } rest [.desel] := by
  rw [csDeassert, if_pos hcs, State.onDevice_of_oracle (by exact hb), State.heard, ← hb]
  rfl

theorem checkFrame_oracle (hb : s.bus = .oracle rest) (t : Byte) : checkFrame a t s = s := by
  simp [checkFrame, State.onDevice_of_oracle hb]

/-- SET_MODE on a cache miss, the line asserted: two transfers and a new frame (R107). -/
theorem setMode_miss_oracle {m : Byte} (hb : s.bus = .oracle (rx ++ rest)) (hlen : rx.length = 2)
    (hcs : s.csAct = true) (hmiss : ¬ (s.mcV = true ∧ s.mcVal = m)) :
    setMode m s = some (State.heard { s with mcV := true, mcVal := m } rest
      [.xfer Config.insWrmr, .xfer m, .desel, .sel]) := by
  rw [setMode, if_neg hmiss, csAssert_of_asserted hcs, sendBytes_oracle hb (by exact hlen), Option.map_some,
    csDeassert_oracle (rest := rest) (by rfl) (by exact hcs), csAssert_oracle (rest := rest) (by rfl) (by rfl)]
  simp [State.heard, hcs]

/-- The state in which the data frame of a command starts, the mode set. -/
def modeHeard (a : Access) (cw : CmdWord) (s : State) (rest : List Byte) : State :=
  State.heard { started a cw s with csAct := true, mcV := true, mcVal := requestedMode a s.cfgHoldEn } rest
    (modeEvents a s)

/-- SET_MODE at the start of a command takes two answers on a miss, and none on a hit (R107). -/
theorem setMode_started_oracle (hb : s.bus = .oracle (rx ++ rest)) (hcs : s.csAct = false)
    (hlen : rx.length = if cacheMiss a s then 2 else 0) :
    setMode (started a cw s).m (csAssert (started a cw s)) = some (modeHeard a cw s rest) := by
  rw [csAssert_oracle (s := started a cw s) (by exact hb) (by exact hcs), modeHeard, modeEvents]
  cases hmiss : cacheMiss a s with
  | false =>
    obtain ⟨hv, hval⟩ := cacheMiss_eq_false.1 hmiss
    obtain rfl : rx = [] := List.length_eq_zero_iff.1 (by simpa [hmiss] using hlen)
    have hcached : started a cw s =
        { started a cw s with mcV := true, mcVal := requestedMode a s.cfgHoldEn } := by
      rw [← hval, ← hv]; rfl
    rw [setMode, if_pos ⟨hv, hval⟩]
    exact congrArg (fun u : State => some (State.heard { u with csAct := true } rest [.sel])) hcached
  | true =>
    have hne : ¬ (s.mcV = true ∧ s.mcVal = requestedMode a s.cfgHoldEn) := fun h => by
      rw [cacheMiss_eq_false.2 h] at hmiss; cases hmiss
    rw [setMode_miss_oracle (heard_bus ..) (by simpa [hmiss] using hlen) (by rfl) (by exact hne)]
    exact congrArg some (heard_heard { started a cw s with
      csAct := true, mcV := true, mcVal := requestedMode a s.cfgHoldEn } _ [.sel] _ _)

/-- The head of the data frame takes one answer for each of its bytes (R110 to R112). -/
theorem sendHead_oracle (hb : s.bus = .oracle (rx ++ rest)) (hlen : rx.length = (headBytes a s.curAddr s).length) :
    sendHead a s = some (s.heard rest ((headBytes a s.curAddr s).map .xfer)) := by
  rw [headBytes] at hlen ⊢
  rw [sendHead, checkFrame_oracle hb, checkFrame_oracle hb]
  cases hdir : usesDir a s.dirOpcodeMulti with
  | true =>
    rw [hdir, if_pos rfl, List.singleton_append] at hlen
    obtain ⟨r, rx, rfl⟩ := List.exists_cons_of_length_eq_add_one hlen
    rw [List.cons_append] at hb
    rw [if_pos rfl, sendByte_oracle hb, Option.bind_some, frameAddress, heard_cfgAddr3, heard_curAddr,
      sendBytes_oracle (heard_bus ..) (Nat.succ.inj hlen), heard_heard]
    rfl
  | false =>
    rw [hdir] at hlen
    exact sendBytes_oracle hb hlen

theorem openingTransfers_eq (addr : Addr) :
    openingTransfers a s = (if cacheMiss a s then 2 else 0) + (headBytes a addr s).length := by
  have haddr : (addrFrame s.cfgAddr3 addr).length = addrBytes s.cfgAddr3 := by cases s.cfgAddr3 <;> rfl
  rw [headBytes, List.length_append, haddr, openingTransfers, Nat.add_assoc]
  split_ifs <;> rfl

/-- The state when the data of the command's frame begins. -/
def openedHeard (a : Access) (cw : CmdWord) (s : State) (rest : List Byte) : State :=
  (modeHeard a cw s rest).heard rest ((headBytes a (cwAddr cw) s).map .xfer)

@[simp] theorem openedHeard_bus : (openedHeard a cw s rest).bus = .oracle rest := rfl
@[simp] theorem openedHeard_csAct : (openedHeard a cw s rest).csAct = true := by simp [openedHeard, modeHeard]
@[simp] theorem openedHeard_rspReady : (openedHeard a cw s rest).rspReady = s.rspReady := by
  simp [openedHeard, modeHeard, started]
@[simp] theorem openedHeard_cur : (openedHeard a cw s rest).cur = cw := by simp [openedHeard, modeHeard, started]

/-- TRANSACT is its data phase between the opening and the end of the frame (R118). -/
theorem transact_oracle {w : State} (hb : s.bus = .oracle (rx ++ rest)) (hcs : s.csAct = false)
    (hlen : rx.length = openingTransfers a s) (h : dataPhase a (openedHeard a cw s rest) = some w) :
    transact a (started a cw s) = some (csDeassert w) := by
  rw [openingTransfers_eq (cwAddr cw)] at hlen
  obtain ⟨mode, head, rfl, hmode, hhead⟩ : ∃ mode head, rx = mode ++ head
      ∧ mode.length = (if cacheMiss a s then 2 else 0) ∧ head.length = (headBytes a (cwAddr cw) s).length :=
    exists_append_of_length hlen
  rw [List.append_assoc] at hb
  have hsent := sendHead_oracle (a := a) (s := modeHeard a cw s (head ++ rest)) (rest := rest) rfl hhead
  obtain ⟨s₂, h₂, h₃⟩ := Option.bind_eq_some_iff.1 hsent
  exact transact_of_parts (setMode_started_oracle hb hcs hmode) h₂ h₃ h

/-- A command whose data phase completes on the BUS's answers ends in FIN and RSP, its frame closed (R118, R119). -/
theorem exec_oracle_of_dataPhase {i : Instr} {v : Data} {opening answers : List Byte} {more : List Data}
    {evs : List Event} (ha : accessOf i = some a) (hcw : commandWord i = some cw) (hs : Willing s)
    (hadm : Admitted a cw s) (hb : s.bus = .oracle (opening ++ answers))
    (hlen : opening.length = openingTransfers a s)
    (h : dataPhase a (openedHeard a cw s answers) =
      some (State.heard { openedHeard a cw s answers with rspRd := v, wdIn := more } rest evs)) :
    ∃ t, exec i s = .next t
      ∧ t.withoutScratch = State.withoutScratch
        { finished a s cw v (openingEvents a (cwAddr cw) s ++ evs ++ [.desel]) with
          bus := .oracle rest
          wdIn := more } := by
  have htransact := transact_oracle hb hs.line hlen h
  rw [csDeassert_oracle (heard_bus ..) (by simp)] at htransact
  obtain ⟨t, ht, hsame⟩ := exec_of_transact ha hcw hs.idle hs.noReset hadm htransact
    (respondWith_of_always (by simpa using hs.takesRsp) _ _)
  refine ⟨t, ht, hsame.trans ?_⟩
  simp [State.withoutScratch, finished, openedHeard, modeHeard, openingEvents_eq, started, accept, State.passTime,
    State.emit, State.heard, hs.idle, hs.line, hs.noReset]

/-! ### Scalars -/

/-- The data phase of a scalar read takes E answers, which are its value (R117). -/
theorem readScalar_oracle {data : List Byte} (hb : s.bus = .oracle (data ++ rest)) (hkind : a.kind = .scalar)
    (hlen : data.length = elemBytes a) :
    readElements a s 1 = some (State.heard { s with rspRd := packLE data } rest
      (data.map (.xferKeep Config.dummyTx))) := by
  rw [readElements, ← hlen, recvElement_oracle hb, Option.bind_some, deliver, if_pos hkind, lowBytes_setBytes]
  rfl

/-- The data phase of a scalar write sends the low E bytes of WDATA (R117). -/
theorem writeScalar_oracle (hb : s.bus = .oracle (rx ++ rest)) (hkind : a.kind = .scalar)
    (hlen : rx.length = elemBytes a) :
    writeElements a s 1 = some (s.heard rest ((unpackLE s.curWdata (elemBytes a)).map .xfer)) := by
  rw [writeElements, if_pos hkind, Option.bind_some, sendBytes_oracle hb (by simpa using hlen)]
  rfl

end

/-- Settles O16: the data phase of a scalar read, between the opening and the end of the frame. -/
theorem scalarReadsReturnTheReceivedBytes : Obligations.ScalarReadsReturnTheReceivedBytes := by
  unfold Obligations.ScalarReadsReturnTheReceivedBytes
  intro i a cw s opening data rest ha hkind hread hcw hs hadm hb hopening hdata
  rw [List.append_assoc] at hb
  refine exec_oracle_of_dataPhase (more := s.wdIn) ha hcw hs hadm hb hopening ?_
  rw [dataPhase, if_pos hread, elemCount_scalar hkind, readScalar_oracle (openedHeard_bus ..) hkind hdata]
  rfl

/-- Settles O17: the data phase of a scalar write, between the opening and the end of the frame. -/
theorem scalarWritesSendTheirBytes : Obligations.ScalarWritesSendTheirBytes := by
  unfold Obligations.ScalarWritesSendTheirBytes
  intro i a cw s answers rest ha hkind hwrite hcw hs hadm hb hlen
  obtain ⟨opening, data, rfl, hopening, hdata⟩ : ∃ opening data, answers = opening ++ data
      ∧ opening.length = openingTransfers a s ∧ data.length = elemBytes a := exists_append_of_length hlen
  rw [List.append_assoc] at hb
  refine exec_oracle_of_dataPhase (more := s.wdIn) ha hcw hs hadm hb hopening ?_
  rw [dataPhase, if_neg (by simp [hwrite]), elemCount_scalar hkind,
    writeScalar_oracle (openedHeard_bus ..) hkind hdata, State.curWdata, openedHeard_cur]
  rfl

end Sys2Proof.Machine
end

section
/-! The block and page commands of 42_block.md: a block of no element (R148), O13, and whole data phases with a BUS that
answers given bytes (R117, R140 to R147), O18 and O19. -/

namespace Sys2Proof.Machine

open Sys2Proof Sys2Proof.Safety

section

variable {a : Access} {cw : CmdWord} {s : State}

/-! ### A command that CHECK answers (R119, R191) -/

/-- A command that CHECK answers is two moves, CHECK and RSP, and neither writes a scratch register. -/
theorem exec_of_verdict_respond {i : Instr} {st : Status} (hcw : commandWord i = some cw) (hidle : s.ph = .idle)
    (hreset : s.resetIn = none) (hrsp : s.rspReady = .always)
    (h : verdict (cmdOf i) (accept cw s) = .respond st) : exec i s = .next (answered s cw st) := by
  have hreset' : (accept cw s).resetIn = none := by simpa using hreset
  have hcheck : Leads (cmdOf i) 1 (accept cw s) (respond st (accept cw s)) := by
    have hrow := leads_rowCheck (c := cmdOf i) hreset' rfl
    rwa [rowCheck, h] at hrow
  have hrespond := leads_respond (c := cmdOf i) (q := (accept cw s).seq) hreset'
    (respondWith_of_always (u := accept cw s) hrsp st 0)
  have hmoves : Leads (cmdOf i) Config.maxMoves _ _ := (hcheck.trans hrespond).mono (by decide)
  rw [exec_command hcw, execute_idle hidle, hmoves.run_of_idle (n' := moveBound s) rfl (Nat.le_add_right _ _)]
  simp [answered, accept, State.emit, State.passTime, State.withSeq, State.seq, hidle, hreset]

/-- A legal command that has nothing to move is answered OK after INIT, before its range is looked at (R190). -/
theorem verdict_of_no_bytes (hlegal : legal s.cur = true) (hinit : s.cfgInit = true) (hbytes : byteCount a s.cur = 0) :
    verdict (.access a) s = .respond .ok := by
  simp [verdict, hlegal, hinit, hbytes]

/-- The element count of a block is its COUNT field (R115). -/
theorem elemCount_block (hkind : a.kind = .block) (cw : CmdWord) : elemCount a cw = (cwCount cw).toNat := by
  simp [elemCount, hkind]

/-! ### Elements with a BUS that answers given bytes (R117) -/

section

variable {rx rest : List Byte}

theorem giveElement_oracle (hb : s.bus = .oracle rest) (hrd : s.rdReady = .always) (e : Data) :
    giveElement e s = some (s.heard rest [.rd e]) := by
  rw [giveElement_of_always hrd, State.moved, State.heard, ← hb]

theorem takeElement_oracle {e : Data} {es : List Data} (hb : s.bus = .oracle rest) (hwd : s.wdIn = e :: es) :
    takeElement s = some (e, State.heard { s with wdIn := es } rest [.wd e]) := by
  rw [takeElement, hwd, State.heard, ← hb]
  rfl

/-- The bytes of n + 1 elements are those of the first and those of n more. -/
theorem exists_first_element {bs : List Byte} {n e : Nat} (h : bs.length = (n + 1) * e) :
    ∃ xs ys, bs = xs ++ ys ∧ xs.length = e ∧ ys.length = n * e :=
  exists_append_of_length (by rw [h, Nat.succ_mul, Nat.add_comm])

/-- A block or page read takes the answers, E for each element, and delivers each element after its last byte. -/
theorem readElements_oracle {data : List Byte} {n : Nat} (hb : s.bus = .oracle (data ++ rest))
    (hrd : s.rdReady = .always) (hkind : a.kind ≠ .scalar) (hlen : data.length = n * elemBytes a) :
    readElements a s n = some (s.heard rest (readEvents a n data)) := by
  induction n generalizing s data with
  | zero =>
    obtain rfl : data = [] := List.length_eq_zero_iff.1 (by simpa using hlen)
    exact congrArg some (heard_nil hb).symm
  | succ n ih =>
    obtain ⟨bytes, data, rfl, hbytes, hdata⟩ := exists_first_element hlen
    rw [List.append_assoc] at hb
    rw [readElements, ← hbytes, recvElement_oracle hb, Option.bind_some, deliver, if_neg hkind, lowBytes_setBytes,
      giveElement_oracle (heard_bus ..) (by exact hrd), Option.bind_some, heard_heard,
      ih (heard_bus ..) (by exact hrd) hdata, heard_heard]
    simp [readEvents, elements, hkind, ← hbytes]

/-- A block or page write takes each element of es right before it sends its bytes, and no element after them. -/
theorem writeElements_oracle {es more : List Data} (hb : s.bus = .oracle (rx ++ rest)) (hwd : s.wdIn = es ++ more)
    (hkind : a.kind ≠ .scalar) (hlen : rx.length = es.length * elemBytes a) :
    writeElements a s es.length = some (State.heard { s with wdIn := more } rest (writeEvents a es)) := by
  induction es generalizing s rx with
  | nil =>
    obtain rfl : rx = [] := List.length_eq_zero_iff.1 (by simpa using hlen)
    obtain rfl : more = s.wdIn := hwd.symm
    exact congrArg some (heard_nil hb).symm
  | cons e es ih =>
    obtain ⟨bytes, rx, rfl, hbytes, hrx⟩ := exists_first_element hlen
    rw [List.append_assoc] at hb
    rw [List.length_cons, writeElements, if_neg hkind, takeElement_oracle hb hwd, Option.bind_some,
      sendBytes_oracle (heard_bus ..) (by simpa using hbytes), Option.bind_some, heard_heard,
      ih (heard_bus ..) (by rfl) hrx]
    show some ((State.heard { s with wdIn := more } _ _).heard _ _) = _
    simp [writeEvents, hkind]

end

end

/-- Settles O13: CHECK answers a block of no byte. -/
theorem zeroCountBlockIsANoOp : Obligations.ZeroCountBlockIsANoOp := by
  unfold Obligations.ZeroCountBlockIsANoOp
  intro i a cw s ha hkind hcw hcount hinit hidle hreset hrsp
  have hbytes : byteCount a cw = 0 := by simp [byteCount, elemCount_block hkind, hcount]
  refine exec_of_verdict_respond hcw hidle hreset hrsp ?_
  rw [cmdOf_eq_access.2 ha]
  exact verdict_of_no_bytes (legal_of_access ha hcw) hinit hbytes

/-- Settles O18: the data phase of a block or page read, between the opening and the end of the frame. -/
theorem blockAndPageReadsDeliverTheirElements : Obligations.BlockAndPageReadsDeliverTheirElements := by
  unfold Obligations.BlockAndPageReadsDeliverTheirElements
  intro i a cw s opening data rest ha hkind hread hcw hs hadm hb hopening hdata
  rw [List.append_assoc] at hb
  refine exec_oracle_of_dataPhase (more := s.wdIn) ha hcw hs hadm hb hopening ?_
  rw [dataPhase, if_pos hread, openedHeard_cur,
    readElements_oracle (openedHeard_bus ..) (by exact hs.takesRd) hkind hdata]
  rfl

/-- Settles O19: the data phase of a block or page write, between the opening and the end of the frame. -/
theorem blockAndPageWritesSendTheirElements : Obligations.BlockAndPageWritesSendTheirElements := by
  unfold Obligations.BlockAndPageWritesSendTheirElements
  intro i a cw s answers rest es more ha hkind hwrite hcw hs hadm hb hlen hwd hes
  obtain ⟨opening, data, rfl, hopening, hdata⟩ := exists_append_of_length hlen
  rw [List.append_assoc] at hb
  refine exec_oracle_of_dataPhase ha hcw hs hadm hb hopening ?_
  rw [dataPhase, if_neg (by simp [hwrite]), openedHeard_cur, ← hes,
    writeElements_oracle (openedHeard_bus ..) (by exact hwd) hkind (by rw [hdata, byteCount, hes])]
  rfl

end Sys2Proof.Machine
end

section
/-! The control commands of 43_control.md: the reserved space (R158), O10, and INIT (R155), O11. -/

namespace Sys2Proof.Machine

open Sys2Proof Sys2Proof.Safety

/-! ### Words that are answered ERR_ILLEGAL -/

/-- An INIT of no capacity, or of more than any device has, is not legal (R75). -/
theorem not_legal_of_init_cap {cw : CmdWord} (hop : cwOp cw = 0x18)
    (hcap : (cwAddr cw).toNat = 0 ∨ Config.capMaxKbit < (cwAddr cw).toNat) : legal cw = false := by
  rw [Bool.eq_false_iff, Ne, legal_iff, hop]
  rintro (⟨h, -⟩ | h | ⟨-, -, -, hlow, hhigh⟩)
  · revert h; decide
  · revert h; decide
  · omega

/-- A word that is not legal is reserved_illegal, which CHECK answers ERR_ILLEGAL (R76, R158). -/
theorem exec_reservedIllegal {cw : CmdWord} {s : State} (hlegal : legal cw = false) (hidle : s.ph = .idle)
    (hreset : s.resetIn = none) (hrsp : s.rspReady = .always) :
    exec (.reservedIllegal cw) s = .next (answered s cw .errIllegal) :=
  exec_of_verdict_respond rfl hidle hreset hrsp (verdict_of_not_legal _ hlegal)

/-! ### INIT with a legal capacity -/

/-- INIT of a legal capacity is a legal word (R75). -/
theorem legal_of_init {cap : Addr} (hold : Bool) (hlow : 1 ≤ cap.toNat) (hhigh : cap.toNat ≤ 131072) :
    legal (cmdWord (if hold then 1 else 0) 0 cap 0x18) = true := by
  have hside := Laws.LegalCode.init cap hold (wellFormed_init hold hlow hhigh)
  simpa [encode] using hside

/-- A legal INIT is two moves, CHECK with DO_INIT and RSP (R119, R155). -/
theorem exec_of_verdict_doInit {i : Instr} {cw : CmdWord} {s : State} (hcw : commandWord i = some cw)
    (hidle : s.ph = .idle) (hreset : s.resetIn = none) (hrsp : s.rspReady = .always)
    (h : verdict (cmdOf i) (accept cw s) = .doInit) :
    exec i s = .next (State.emit { doInit (accept cw s) with rspSt := .ok, rspRd := 0, ph := .idle } (.rsp .ok 0)) := by
  have hreset' : (accept cw s).resetIn = none := by simpa using hreset
  have hcheck : Leads (cmdOf i) 1 (accept cw s) (respond .ok (doInit (accept cw s))) := by
    have hrow := leads_rowCheck (c := cmdOf i) hreset' rfl
    rwa [rowCheck, h] at hrow
  have hrespond := leads_respond (c := cmdOf i) (q := (doInit (accept cw s)).seq) (by simpa using hreset)
    (respondWith_of_always (u := doInit (accept cw s)) (by simpa using hrsp) .ok 0)
  have hmoves : Leads (cmdOf i) Config.maxMoves _ _ := (hcheck.trans hrespond).mono (by decide)
  rw [exec_command hcw, execute_idle hidle, hmoves.run_of_idle (n' := moveBound s) rfl (Nat.le_add_right _ _)]
  rfl

/-- INIT's WDATA carries HOLD_EN in its bit 0 (R155). -/
theorem getElem_init_wdata (hold : Bool) : (if hold then 1#32 else 0#32)[0] = hold := by
  cases hold <;> rfl

/-- The end of an INIT with a legal capacity. -/
theorem exec_init {cap : Addr} {s : State} (hold : Bool) (hlow : 1 ≤ cap.toNat) (hhigh : cap.toNat ≤ 131072)
    (hidle : s.ph = .idle) (hcs : s.csAct = false) (hreset : s.resetIn = none) (hrsp : s.rspReady = .always) :
    exec (.init cap hold) s = .next
      { answered s (cmdWord (if hold then 1 else 0) 0 cap 0x18) .ok with
        cfgInit := true
        cfgCapKbit := cap
        cfgAddr3 := addr3Of cap.toNat
        cfgHoldEn := hold
        mcV := false
        mcVal := 0x00 } := by
  have hcw : commandWord (.init cap hold) = some (cmdWord (if hold then 1 else 0) 0 cap 0x18) := rfl
  have hverdict : verdict .init (accept (cmdWord (if hold then 1 else 0) 0 cap 0x18) s) = .doInit :=
    verdict_eq_doInit.2 ⟨legal_of_init hold hlow hhigh, rfl⟩
  rw [exec_of_verdict_doInit hcw hidle hreset hrsp hverdict, doInit_of_deasserted (by simpa using hcs)]
  simp [answered, accept, State.emit, State.passTime, State.curAddr, State.curWdata, getElem_init_wdata, hidle, hreset]

/-- Settles O10: CHECK looks at LEGAL first. -/
theorem reservedCommandAnswersIllegal : Obligations.ReservedCommandAnswersIllegal := by
  unfold Obligations.ReservedCommandAnswersIllegal
  exact ⟨rfl, fun s cw hlegal hidle hreset hrsp =>
    ⟨decodeCmd_of_not_legal hlegal, exec_reservedIllegal hlegal hidle hreset hrsp⟩⟩

/-- Settles O11: a legal INIT is what DO_INIT leaves, and a word with a bad field is not LEGAL. -/
theorem initLatchesTheConfiguration : Obligations.InitLatchesTheConfiguration := by
  unfold Obligations.InitLatchesTheConfiguration
  intro s hidle hcs hreset hrsp
  refine ⟨fun cap hold hlow hhigh => ⟨exec_init hold hlow hhigh hidle hcs hreset hrsp, rfl⟩, fun cw hop hbad => ?_⟩
  have hlegal : legal cw = false := by
    obtain h | h | h | h := hbad
    · exact not_legal_of_init_cap hop (.inl h)
    · exact not_legal_of_init_cap hop (.inr h)
    · exact not_legal_of_count (.inr (.inr (.inr hop))) h
    · exact not_legal_of_init_wdata hop h
  rw [decodeCmd_of_not_legal hlegal]
  exact exec_reservedIllegal hlegal hidle hreset hrsp

end Sys2Proof.Machine
end

section
/-! The HOST's typed conversions are inverse on bit patterns (R165 to R177): O56. -/

namespace Sys2Proof.Machine

open Sys2Proof

/-! ### Signed integers are two's complement (R172, R173) -/

theorem int32_eq_toInt (b : Data) : int32 b = b.toInt := by
  rw [int32, BitVec.toInt_eq_msb_cond, BitVec.msb_eq_getLsbD_last]
  rfl

theorem bits32_eq_ofInt {v : Int} (h : -2 ^ 32 ≤ v) : bits32 v = BitVec.ofInt 32 v := by
  apply BitVec.eq_of_toNat_eq
  rw [bits32, BitVec.toNat_ofNat, BitVec.toNat_ofInt]
  split <;> omega

theorem int32_bits32 {v : Int} (hlow : -2 ^ 31 ≤ v) (hhigh : v < 2 ^ 31) : int32 (bits32 v) = v := by
  rw [int32_eq_toInt, bits32_eq_ofInt (by omega)]
  exact BitVec.toInt_ofInt_eq_self (by decide) hlow hhigh

theorem int32_bounds (b : Data) : -2 ^ 31 ≤ int32 b ∧ int32 b < 2 ^ 31 := by
  rw [int32_eq_toInt]
  exact ⟨b.le_toInt, b.toInt_lt⟩

theorem bits32_int32 (b : Data) : bits32 (int32 b) = b := by
  have hlow := (int32_bounds b).1
  rw [bits32_eq_ofInt (by omega), int32_eq_toInt, BitVec.ofInt_toInt]

/-! ### Values narrower than the data word (R166 to R169) -/

theorem readByteValue_setWidth (v : BitVec 8) : readByteValue (v.setWidth 32) = v := by
  rw [readByteValue, BitVec.extractLsb'_setWidth_of_le (by decide), BitVec.extractLsb'_eq_self]

theorem readWordValue_setWidth (v : BitVec 16) : readWordValue (v.setWidth 32) = v := by
  rw [readWordValue, BitVec.extractLsb'_setWidth_of_le (by decide), BitVec.extractLsb'_eq_self]

/-! ### The value read_T returns (R165) -/

theorem type_typedValue (ty : ScalarType) (b : Data) : (typedValue ty b).type = ty := by
  cases ty <;> rfl

theorem inType_typedValue (ty : ScalarType) (b : Data) : (typedValue ty b).inType = true := by
  cases ty with
  | u8 | u16 | u32 | float => rfl
  | int32 | long => exact decide_eq_true (int32_bounds b)

/-- Settles O56: narrow values by their low bits, signed ones as two's complement, the others unchanged. -/
theorem typedConversionsAreInverse : Obligations.TypedConversionsAreInverse := by
  unfold Obligations.TypedConversionsAreInverse
  exact ⟨readByteValue_setWidth, readWordValue_setWidth, fun _ => int32_bits32, fun _ => int32_bits32,
    fun b => ⟨bits32_int32 b, int32_bounds b⟩, fun _ => rfl, fun _ => rfl,
    fun ty b => ⟨type_typedValue ty b, inType_typedValue ty b⟩⟩

end Sys2Proof.Machine
end

section
/-! The typed accessors one after the other on the reference device (R68, R184): O59. -/

namespace Sys2Proof.Machine

open Sys2Proof Sys2Proof.Safety

/-! ### The command words of the accessors -/

/-- WDATA of write_T (R166, R168, R170, R172, R174, R176). -/
def TypedValue.wdata : TypedValue → Data
  | .u8 v => v.setWidth 32
  | .u16 v => v.setWidth 32
  | .u32 v => v
  | .int32 v => bits32 v
  | .long v => bits32 v
  | .float bits => bits

theorem commandWord_writeTyped (addr : Addr) (v : TypedValue) :
    ∃ op, commandWord (writeTyped addr v) = some (cmdWord v.wdata 0 addr op) := by
  cases v <;> exact ⟨_, rfl⟩

theorem commandWord_readTyped (ty : ScalarType) (addr : Addr) :
    ∃ op, commandWord (readTyped ty addr) = some (cmdWord 0 0 addr op) := by
  cases ty <;> exact ⟨_, rfl⟩

/-- WDATA has no bit above the bytes the command sends. -/
theorem lowBytes_wdata (v : TypedValue) : lowBytes v.wdata (widthBytes v.type.width) = v.wdata := by
  cases v with
  | u8 v | u16 v => exact congrArg _ ((BitVec.setWidth_setWidth_of_le v (by decide)).trans v.setWidth_eq)
  | u32 | int32 | long | float => exact (BitVec.setWidth_eq _).trans (BitVec.setWidth_eq _)

/-- read_T of what write_T sends is the value (R166 to R177). -/
theorem typedValue_wdata {v : TypedValue} (hv : v.inType = true) : typedValue v.type v.wdata = v := by
  cases v with
  | u8 v => exact congrArg _ (readByteValue_setWidth v)
  | u16 v => exact congrArg _ (readWordValue_setWidth v)
  | u32 | float => rfl
  | int32 v | long v =>
    obtain ⟨hlow, hhigh⟩ := of_decide_eq_true hv
    exact congrArg _ (int32_bits32 hlow hhigh)

/-! ### A write and its read, run to their responses -/

section

variable {a : Access} {cw cw' : CmdWord} {s t : State} {i i' : Instr}

/-- A command that ends as O20 and O21 say has completed OK. -/
theorem execOk_of_finished {v : Data} {evs : List Event} {more : List Data} {d : Device} (hs : Willing s)
    (ht : exec i s = .next t)
    (h : State.withoutScratch { t with dev := d } =
      State.withoutScratch { finished a s cw v evs with wdIn := more }) : execOk i s = some t :=
  execOk_eq_some.2 ⟨ht, (congrArg State.ph h).trans hs.idle, (congrArg State.rspSt h :)⟩

/-- A scalar write and the read of the same place complete OK, and the read returns the bytes written (R68). -/
theorem execOk_write_read (ha : accessOf i = some a) (hkind : a.kind = .scalar) (hwrite : a.read = false)
    (hcw : commandWord i = some cw) (ha' : accessOf i' = some { a with read := true })
    (hcw' : commandWord i' = some cw') (haddr : cwAddr cw' = cwAddr cw) (hcount : cwCount cw' = cwCount cw)
    (hs : Willing s) (hadm : Admitted a cw s) (hw : WellAttached a s) (hfit : byteCount a cw ≤ s.dev.capBytes) :
    ∃ t u, execOk i s = some t ∧ execOk i' t = some u ∧ u.rspRd = lowBytes (cwWdata cw) (elemBytes a) := by
  obtain ⟨t, u, evs, ht, hu, -, -, hval⟩ := writeThenReadReturnsTheValue i i' a cw cw' s [cwWdata cw] [] ha hwrite
    hcw ha' hcw' haddr hcount hs hadm hw hfit (elemCount_scalar hkind cw).symm (by rw [if_pos hkind])
  obtain ⟨t', ht', hsame, -, -, hbad, hcap, hmode⟩ := writesStoreTheirBytesAndNoOther i a cw s [cwWdata cw] s.wdIn ha
    hwrite hcw hs hadm hw (elemCount_scalar hkind cw).symm (by rw [if_pos hkind]; exact ⟨rfl, rfl⟩)
  obtain rfl : t = t' := by simpa [ht] using ht'
  have hnext := follows_of_finished hs hsame hbad hcap hmode
  obtain ⟨u', hu', hsame', -⟩ := readsReturnWhatTheDeviceHolds i' _ cw' t ha' rfl hcw' hnext.willing
    (admitted_read hcount haddr (hnext.admitted hadm)) (hnext.wellAttached hw hw.dir)
  obtain rfl : u = u' := by simpa [hu] using hu'
  rw [if_pos hkind] at hval
  exact ⟨t, u, execOk_of_finished hs ht hsame, execOk_of_finished hnext.willing hu hsame', hval⟩

end

/-- Settles O59: the read returns the low bytes of WDATA, which are all of it, and the conversions are inverse. -/
theorem typedRoundTrip_eq_some : Obligations.TypedRoundTrip := by
  unfold Obligations.TypedRoundTrip
  intro addr v s hv hs hinit _ hw hdev hrange
  obtain ⟨op, hcw⟩ := commandWord_writeTyped addr v
  obtain ⟨op', hcw'⟩ := commandWord_readTyped v.type addr
  have hbytes : byteCount ⟨.scalar, v.type.width, false⟩ (cmdWord v.wdata 0 addr op) = widthBytes v.type.width :=
    Nat.one_mul _
  have hadm : Admitted ⟨.scalar, v.type.width, false⟩ (cmdWord v.wdata 0 addr op) s :=
    { init := hinit
      moves := hbytes ▸ elemBytes_pos ⟨.scalar, v.type.width, false⟩
      range := fun hcheck => decide_eq_true (by rw [cwAddr_cmdWord, hbytes]; exact hrange hcheck) }
  obtain ⟨t, u, ht, hu, hval⟩ := execOk_write_read (accessOf_writeTyped addr v) rfl rfl hcw
    (accessOf_readTyped v.type addr) hcw' (by simp) (by simp) hs hadm hw (by rw [hbytes]; omega)
  have hbits : u.rspRd = v.wdata := by rw [hval, cwWdata_cmdWord]; exact lowBytes_wdata v
  simp [typedRoundTrip, ht, hu, hbits, typedValue_wdata hv]

end Sys2Proof.Machine
end

section
/-! How the HOST cuts a block of any length into commands (R178, R179): O58. -/

namespace Sys2Proof.Machine

open Sys2Proof

/-! ### The counts -/

theorem length_chunkCounts (len : Nat) : (chunkCounts len).length = (len - 1) / 65535 + 1 := by
  simp [chunkCounts]

theorem sum_chunkCounts (len : Nat) : (chunkCounts len).sum = len := by
  simp only [chunkCounts, List.sum_append, List.sum_replicate, List.sum_singleton, smul_eq_mul]
  omega

/-- All commands but the last have 65535 elements. -/
theorem sum_take_chunkCounts {len i : Nat} (h : i < (chunkCounts len).length) :
    ((chunkCounts len).take i).sum = i * 65535 := by
  rw [length_chunkCounts, Nat.lt_succ_iff] at h
  rw [chunkCounts, List.take_append_of_le_length (by simpa using h), List.take_replicate, Nat.min_eq_left h,
    List.sum_replicate, smul_eq_mul]

theorem le_of_mem_chunkCounts {len n : Nat} (h : n ∈ chunkCounts len) : n ≤ 65535 := by
  rw [chunkCounts, List.mem_append, List.mem_singleton] at h
  obtain h | rfl := h
  · exact (List.eq_of_mem_replicate h).le
  · omega

/-! ### The commands -/

/-- Command i has count i, and starts after the bytes of the commands before it. -/
theorem blockCommands_eq_map (make : Addr → Count → Instr) (bytes : Nat) (ns : List Nat) (addr : Addr) :
    blockCommands make bytes ns addr = (List.range ns.length).map fun i =>
      make (addr + BitVec.ofNat 24 ((ns.take i).sum * bytes)) (BitVec.ofNat 16 (ns.getD i 0)) := by
  induction ns generalizing addr with
  | nil => rfl
  | cons n rest ih =>
    rw [blockCommands, ih, List.length_cons, List.range_succ_eq_map, List.map_cons, List.map_map]
    simp [Function.comp_def, Nat.add_mul, BitVec.ofNat_add, BitVec.add_assoc]

theorem blockCommands_chunkCounts (make : Addr → Count → Instr) (bytes len : Nat) (addr : Addr) :
    blockCommands make bytes (chunkCounts len) addr = (List.range (chunkCounts len).length).map fun i =>
      make (addr + BitVec.ofNat 24 (i * 65535 * bytes)) (BitVec.ofNat 16 ((chunkCounts len).getD i 0)) := by
  rw [blockCommands_eq_map]
  refine List.map_congr_left fun i hi => ?_
  rw [sum_take_chunkCounts (List.mem_range.1 hi)]

/-! ### A split write -/

theorem map_fst_splitWrite (w : Width) (es : List Data) (addr : Addr) :
    (splitWrite w es addr).map Prod.fst =
      blockCommands (blockWriteOf w) (widthBytes w) (chunkCounts es.length) addr :=
  List.map_fst_zip (by simp)

theorem flatMap_snd_splitWrite (w : Width) (es : List Data) (addr : Addr) :
    (splitWrite w es addr).flatMap Prod.snd = es := by
  rw [List.flatMap_def, splitWrite, List.map_snd_zip (by simp), flatten_cutElements, sum_chunkCounts, List.take_length]

/-- Settles O58: a split makes one command for each count, and the counts cut all elements and no more. -/
theorem longBlocksAreSplitWithoutLoss : Obligations.LongBlocksAreSplitWithoutLoss := by
  unfold Obligations.LongBlocksAreSplitWithoutLoss
  intro w es addr
  exact ⟨flatMap_snd_splitWrite w es addr, (map_fst_splitWrite w es addr).trans (blockCommands_chunkCounts ..),
    blockCommands_chunkCounts .., sum_chunkCounts _, fun _ => le_of_mem_chunkCounts⟩

end Sys2Proof.Machine
end

section
/-! What CHECK answers a read or write command (60_exceptions.md): before INIT (R187), O12, outside the device (R189),
O14, and the order of its tests (R190), O15. -/

namespace Sys2Proof.Machine

open Sys2Proof Sys2Proof.Safety

section

variable {a : Access} {cw : CmdWord} {s : State}

/-! ### The word in CUR (R74, R75) -/

/-- A legal word with the OP of INIT is INIT. -/
theorem decodeCmd_of_init_op (hlegal : legal cw = true) (hop : cwOp cw = 0x18) :
    decodeCmd cw = .init (cwAddr cw) (cw.getLsbD 48) := by
  simp [decodeCmd, hlegal, hop]

/-- A legal word with any other OP is a read or write command: INIT's own word has the OP of INIT. -/
theorem exists_access_of_legal (hlegal : legal cw = true) (hop : cwOp cw ≠ 0x18) :
    ∃ a, accessOf (decodeCmd cw) = some a := by
  refine Option.isSome_iff_exists.1 ((decodeCmd_of_legal hlegal).resolve_right fun hinit => hop ?_)
  have hcw := commandWord_decodeCmd cw
  rw [hinit] at hcw
  exact (congrArg cwOp (Option.some.inj hcw)).symm.trans (cwOp_cmdWord ..)

/-! ### What CHECK decides for a read or write command (R187 to R190) -/

/-- The tests a legal read or write command meets, in order. -/
theorem verdict_access (hlegal : legal s.cur = true) :
    verdict (.access a) s =
      if s.cfgInit = false then .respond .errNotInit
      else if byteCount a s.cur = 0 then .respond .ok
      else if s.rangeCheck = true ∧ inRange a s.cur s.cfgCapKbit.toNat = false then .respond .errRange
      else .transact a := by
  simp [verdict, hlegal]

/-- A command that moves something after INIT is answered ERR_RANGE exactly where it is checked and not in range. -/
theorem verdict_eq_errRange (hlegal : legal s.cur = true) (hinit : s.cfgInit = true) (hbytes : 0 < byteCount a s.cur) :
    verdict (.access a) s = .respond .errRange ↔
      s.rangeCheck = true ∧ inRange a s.cur s.cfgCapKbit.toNat = false := by
  rw [verdict_access hlegal, if_neg (by simp [hinit]), if_neg hbytes.ne']
  split_ifs with hrange <;> simp [hrange]

/-- Out of range, in exact arithmetic: a page by its start, any other command by its last byte. -/
theorem inRange_eq_false {cap : Nat} :
    inRange a cw cap = false ↔
      if a.kind = .page then cap * 128 ≤ (cwAddr cw).toNat else cap * 128 < (cwAddr cw).toNat + byteCount a cw := by
  have hcap : capBytes cap = cap * 128 := rfl
  rw [← hcap]
  cases hkind : a.kind <;> simp [inRange, hkind]

/-! ### The row of CHECK (R120) -/

theorem advance_check (c : Cmd) (hp : s.ph = .check) : advance c s = .go (rowCheck c s) := by
  unfold advance
  rw [hp]

/-- The row of CHECK for a legal read or write command. -/
theorem rowCheck_access (hlegal : legal s.cur = true) :
    rowCheck (.access a) s =
      if s.cfgInit = false then respond .errNotInit s
      else if byteCount a s.cur = 0 then respond .ok s
      else if s.rangeCheck = true ∧ inRange a s.cur s.cfgCapKbit.toNat = false then respond .errRange s
      else { s with m := requestedMode a s.cfgHoldEn, rspRd := 0, ph := .sel } := by
  rw [rowCheck, verdict_access hlegal]
  split_ifs <;> rfl

/-! ### INIT's response -/

/-- INIT is answered OK where its word is legal, and ERR_ILLEGAL where it is not. -/
theorem rspSt_of_exec_init {cap : Addr} {hold : Bool} {t : State} (hidle : s.ph = .idle) (hreset : s.resetIn = none)
    (hrsp : s.rspReady = .always) (h : exec (.init cap hold) s = .next t) :
    t.rspSt = .ok ∨ t.rspSt = .errIllegal := by
  have hcw : commandWord (.init cap hold) = some (cmdWord (if hold then 1 else 0) 0 cap 0x18) := rfl
  cases hlegal : legal (cmdWord (if hold then 1 else 0) 0 cap 0x18) with
  | true =>
    rw [exec_of_verdict_doInit hcw hidle hreset hrsp (verdict_eq_doInit.2 ⟨hlegal, rfl⟩)] at h
    cases h
    exact .inl rfl
  | false =>
    rw [exec_of_verdict_respond hcw hidle hreset hrsp (verdict_of_not_legal _ hlegal)] at h
    cases h
    exact .inr rfl

end

/-- Settles O12: CHECK's second test stops every legal read or write command, and INIT has only two answers. -/
theorem commandsBeforeInitAreRefused : Obligations.CommandsBeforeInitAreRefused := by
  unfold Obligations.CommandsBeforeInitAreRefused
  intro s hinit hidle hreset hrsp
  refine ⟨fun i a cw ha hcw => ?_, fun cap hold t h => ?_⟩
  · refine exec_of_verdict_respond hcw hidle hreset hrsp ?_
    rw [cmdOf_eq_access.2 ha]
    exact (verdict_access (legal_of_access ha hcw)).trans (if_pos hinit)
  · obtain hst | hst := rspSt_of_exec_init hidle hreset hrsp h <;> simp [hst]

/-- Settles O14: CHECK's verdict is ERR_RANGE exactly out of range, and ends the command with nothing else changed. -/
theorem outOfRangeCommandsAreRefused : Obligations.OutOfRangeCommandsAreRefused := by
  unfold Obligations.OutOfRangeCommandsAreRefused
  intro i a cw s ha hcw hinit hidle hreset hrsp hbytes
  have hverdict := verdict_eq_errRange (a := a) (s := accept cw s) (legal_of_access ha hcw) hinit hbytes
  rw [inRange_eq_false] at hverdict
  refine ⟨fun hcheck hout => exec_of_verdict_respond hcw hidle hreset hrsp ?_, hverdict⟩
  rw [cmdOf_eq_access.2 ha]
  exact hverdict.2 ⟨hcheck, hout⟩

/-- Settles O15: a legal word is INIT where its OP is, and else a read or write command. -/
theorem checkTestsInFixedOrder : Obligations.CheckTestsInFixedOrder := by
  unfold Obligations.CheckTestsInFixedOrder
  intro s hcheck
  rw [advance_check _ hcheck]
  refine congrArg Move.go ?_
  cases hlegal : legal s.cur with
  | false => rw [if_pos rfl, rowCheck, verdict_of_not_legal _ hlegal]
  | true =>
    rw [if_neg (by simp)]
    by_cases hop : cwOp s.cur = 0x18
    · rw [if_pos hop, rowCheck,
        verdict_eq_doInit.2 ⟨hlegal, cmdOf_eq_init.2 ⟨_, _, decodeCmd_of_init_op hlegal hop⟩⟩]
    · obtain ⟨a, ha⟩ := exists_access_of_legal hlegal hop
      rw [if_neg hop, cmdOf_eq_access.2 ha, rowCheck_access hlegal, ha]

end Sys2Proof.Machine
end

section
/-! Reset (R215 to R217): the reset state, which comes in any phase, O40, and what the cut leaves in the device, O41. -/

namespace Sys2Proof.Machine

open Sys2Proof Sys2Proof.Safety

/-! ### Reset in any phase -/

/-- A reset that is due is the whole next step (R215). -/
theorem step_of_reset {s : State} (hw : s.wire = []) (hreset : s.resetIn = some 0) : step s = .next (coreReset s) :=
  stepRunsTheDecodedInstruction.2.2.2.1 s hw hreset

/-- Settles O40: the step is the reset, and after it CFG_INIT is 0 and no reset is due. -/
theorem resetComesInAnyPhase : Obligations.ResetComesInAnyPhase := by
  unfold Obligations.ResetComesInAnyPhase
  intro s hw hreset
  refine ⟨coreReset s, step_of_reset hw hreset, rfl, fun i a cw hrsp ha hcw => ?_⟩
  exact (commandsBeforeInitAreRefused (coreReset s) rfl rfl rfl hrsp).1 i a cw ha hcw

/-! ### What the cut leaves in the device (R216) -/

section

variable {d : Device} {s : State} {x : Nat}

/-- Forgetting bytes j to j + n - 1 of a write changes no byte but theirs. -/
theorem Device.forgetBytes_read {mode : Mode} {a j n : Nat} (hgood : d.bad = false)
    (hx : ∀ j', j ≤ j' → j' < j + n → daddr mode d.capBytes a j' ≠ some x) :
    (d.forgetBytes mode a j n).read x = d.read x := by
  induction n generalizing d j with
  | zero => rfl
  | succ n ih =>
    unfold Device.forgetBytes
    split
    · rfl
    · next y hy =>
      have hne : y ≠ x := by
        rintro rfl
        exact hx j le_rfl (by omega) hy
      have hlater := ih (d := { d.draw.2 with mem := Memory.write d.mem y d.draw.1 }) (j := j + 1) hgood
        fun j' hlow hhigh => hx j' (by omega) (by omega)
      refine hlater.trans ?_
      rw [Device.read_of_good hgood, Device.read_of_good (by exact hgood)]
      exact Memory.read_write_other d.epoch d.mem d.draw.1 hne

/-- The end of a frame never makes the whole content any value. -/
@[simp] theorem Device.deselect_epoch (d : Device) : d.deselect.epoch = d.epoch := by
  have hfail : d.fail.epoch = d.epoch := by unfold Device.fail; split <;> rfl
  unfold Device.deselect
  split
  · exact hfail
  all_goals rfl

/-- The end of a frame changes no byte unless it marks the device BAD (R66). -/
theorem Device.deselect_read (h : d.deselect.bad = false) (x : Nat) : d.deselect.read x = d.read x := by
  rw [Device.read_of_good h, Device.read_of_good ((Device.Evolves.deselect d).unmarked h), Device.deselect_mem h,
    Device.deselect_epoch]

/-- No byte that a write in flight has yet to send goes to the address x (R216). -/
def Spared (s : State) (x : Nat) : Prop :=
  ∀ a n, s.flight = some a → a.read = false → bytesSent a s = some n →
    ∀ j, n ≤ j → j < byteCount a s.cur → byteAddress a s.cur s j ≠ some x

/-- The cut of a write keeps every spared byte of an unmarked device. -/
theorem cutWrite_read (hgood : s.dev.bad = false) (hx : Spared s x) : (cutWrite s s.dev).read x = s.dev.read x := by
  unfold cutWrite
  split
  · rfl
  · next a ha =>
    split
    · rfl
    · next hwrite =>
      split
      · rfl
      · next n hn =>
        refine Device.forgetBytes_read hgood fun j hlow hhigh => ?_
        exact hx a n ha (by simp_all) hn j hlow (by omega)

/-- A reset that cut no instruction or mode byte and left no BAD mark keeps every spared byte. -/
theorem coreReset_read (hgood : (coreReset s).dev.bad = false)
    (hcut : ¬ (bytePending s.ph = true ∧ (s.dev.frame = .start ∨ s.dev.frame = .modeVal)))
    (hx : Spared s x) : (coreReset s).dev.read x = s.dev.read x := by
  have hwrite := cutWrite_read ((Device.Evolves.coreReset s).unmarked hgood) hx
  rw [coreReset_dev] at hgood ⊢
  obtain ⟨rx, hb⟩ | hb := bus_cases s.bus
  · rw [State.onDevice_of_oracle hb]
  · rw [State.onDevice_of_device hb] at hgood ⊢
    dsimp only [cutDevice] at hgood ⊢
    rw [cutInstruction_of_none hcut] at hgood ⊢
    split at hgood
    · next hcs => rw [if_pos hcs, Device.deselect_read hgood, hwrite]
    · next hcs => rw [if_neg hcs, hwrite]

end

/-- Settles O41: the write in flight is one command with one count of bytes sent, and no other loses a byte. -/
theorem resetCutLosesOnlyTheBytesFromTheCutOn : Obligations.ResetCutLosesOnlyTheBytesFromTheCutOn := by
  unfold Obligations.ResetCutLosesOnlyTheBytesFromTheCutOn
  intro s hgood hcut
  refine ⟨fun a n ha hread hn x hx => ?_, fun hnone x => ?_⟩
  · refine coreReset_read hgood hcut fun a' n' ha' _ hn' => ?_
    obtain rfl : a = a' := Option.some.inj (ha.symm.trans ha')
    obtain rfl : n = n' := Option.some.inj (hn.symm.trans hn')
    exact hx
  · refine coreReset_read hgood hcut fun a n ha hread hn => ?_
    obtain h | h := hnone a ha
    · exact absurd h (by simp [hread])
    · cases h.symm.trans hn

end Sys2Proof.Machine
end

section
/-! Every command ends (R193, R223), O28: a row of the FSM leaves fewer moves to come, and a reset that is coming leaves
fewer too, so the run of a command stops before it is cut off (log 15). -/

namespace Sys2Proof.Machine

open Sys2Proof Sys2Proof.Safety

/-! ### The moves still to come -/

/-- The elements of the data phase of the command c (R115). -/
def elementsOf (c : Cmd) (cw : CmdWord) : Nat :=
  match c with
  | .access a => elemCount a cw
  | .init => 0
  | .illegal => 0

/-- A bound on the rows of the FSM from a state to IDLE (R120): at most five for each element still to come. -/
def rowsLeft (c : Cmd) (s : State) : Nat :=
  match s.ph with
  | .idle => 0
  | .rsp => 1
  | .fin => 2
  | .dataSt => 3 + 5 * (elementsOf c s.cur - (s.k.toNat + 1))
  | .dataX => 7 + 5 * (elementsOf c s.cur - (s.k.toNat + 1)) - s.i.toNat
  | .dataLd => 8 + 5 * (elementsOf c s.cur - (s.k.toNat + 1))
  | .addr => 9 + 5 * elementsOf c s.cur + s.ai.toNat
  | .dirb => 13 + 5 * elementsOf c s.cur
  | .mrResel => 14 + 5 * elementsOf c s.cur
  | .mrDesel => 15 + 5 * elementsOf c s.cur
  | .mrVal => 16 + 5 * elementsOf c s.cur
  | .mrOpc => 17 + 5 * elementsOf c s.cur
  | .mrcmp => 18 + 5 * elementsOf c s.cur
  | .sel => 19 + 5 * elementsOf c s.cur
  | .check => 20 + 5 * elementsOf c s.cur
  | .reserved => 1

/-- A bound on the moves from a state to a halt: a reset that is coming ends the command (R215). -/
def movesLeft (c : Cmd) (s : State) : Nat :=
  match s.resetIn with
  | none => rowsLeft c s
  | some n => n + 1

section

variable {a : Access} {c : Cmd} {s t : State}

theorem rowsLeft_afterMode (hp : t.ph = afterMode a t) : rowsLeft c t ≤ 13 + 5 * elementsOf c t.cur := by
  have hai := t.ai.isLt
  unfold afterMode at hp
  split at hp <;> simp only [rowsLeft, hp] <;> omega

/-- Every row of R120 leaves fewer rows to come. -/
theorem rowsLeft_advance (h : advance c s = .go t) : rowsLeft c t < rowsLeft c s := by
  obtain ⟨hp, rfl⟩ | ⟨hp, h⟩ | ⟨a, rfl, hrow⟩ := advance_cases h
  · obtain ⟨st, h⟩ | ⟨-, -, h⟩ | ⟨a, -, -, h⟩ := rowCheck_eq c s
    · rw [h]; simp only [rowsLeft, hp, respond_ph]; omega
    · rw [h]; simp only [rowsLeft, hp, respond_ph]; omega
    · rw [h]; simp [rowsLeft, hp]
  · obtain ⟨r, -, rfl⟩ := giveResponse_cases h
    simp [rowsLeft, hp]
  · have helem := elemBytes_le a
    -- The rows in R120's order, from SEL to FIN.
    obtain ⟨hp, rfl⟩ | ⟨hp, rfl⟩ | ⟨hp, u, hu, rfl⟩ | ⟨hp, h⟩ | ⟨hp, rfl⟩ | ⟨hp, rfl⟩ | ⟨hp, h⟩ | ⟨hp, -, h⟩
      | ⟨hp, -, h⟩ | ⟨hp, hcount, -, h⟩ | ⟨hp, hcount, -, h⟩ | ⟨hp, -, -, -, h⟩ | ⟨hp, rfl⟩ := hrow
    · simp [rowsLeft, hp]
    · obtain ⟨-, -, h⟩ | ⟨-, h⟩ := rowMrcmp_eq a s
      · rw [h]
        refine (rowsLeft_afterMode (a := a) rfl).trans_lt ?_
        simp [rowsLeft, hp]
      · rw [h]; simp [rowsLeft, hp]
    · obtain ⟨b, d, -, rfl⟩ := sendByte_reached hu
      simp [rowsLeft, hp]
    · obtain ⟨b, d, -, rfl⟩ := rowMrVal_eq h
      simp [rowsLeft, hp]
    · simp [rowsLeft, hp]
    · refine (rowsLeft_afterMode (a := a) (by simp [rowMrResel, afterMode])).trans_lt ?_
      simp [rowsLeft, rowMrResel, hp]
    · obtain ⟨b, d, -, rfl⟩ := rowDirb_eq h
      have hai := s.ai.isLt
      simp only [rowsLeft, hp, State.exchange, State.goto]; omega
    · obtain ⟨b, d, -, ⟨hai, rfl⟩ | ⟨hai, rfl⟩⟩ := rowAddr_eq h
      · cases a.read <;> simp [rowsLeft, hp] <;> omega
      · have hpred := toNat_pred hai
        simp only [rowsLeft, hp, State.exchange]; omega
    · obtain ⟨-, rfl⟩ | ⟨-, e, rest, -, rfl⟩ := rowDataLd_eq h
      · simp only [rowsLeft, hp]; omega
      · simp only [rowsLeft, hp]; omega
    · obtain ⟨hi, hk⟩ := countersInRange_iff.1 hcount
      obtain ⟨b, d, -, ⟨hlt, rfl⟩ | ⟨-, hlt, rfl⟩ | ⟨-, -, rfl⟩⟩ := rowDataXWrite_eq h
      · have hnext := toNat_next_byte hlt
        simp only [rowsLeft, hp, State.exchange]; omega
      · have hnext := toNat_next_element hlt
        simp only [rowsLeft, hp, State.exchange, elementsOf]; omega
      · simp only [rowsLeft, hp]; omega
    · obtain ⟨hi, hk⟩ := countersInRange_iff.1 hcount
      obtain ⟨r, b, d, -, ⟨hlt, rfl⟩ | ⟨-, -, rfl⟩ | ⟨-, -, rfl⟩⟩ := rowDataXRead_eq h
      · have hnext := toNat_next_byte hlt
        simp only [rowsLeft, hp, State.exchange]; omega
      · simp only [rowsLeft, hp]; omega
      · simp only [rowsLeft, hp, State.exchange]; omega
    · obtain ⟨r, -, ⟨hlt, rfl⟩ | ⟨-, rfl⟩⟩ := rowDataSt_eq h
      · have hnext := toNat_next_element hlt
        simp only [rowsLeft, hp, elementsOf]; omega
      · simp only [rowsLeft, hp]; omega
    · simp [rowsLeft, rowFin, hp]

/-- The FSM halts in IDLE, and in a wait that no reset will end. -/
theorem halted_iff : halted c s = true ↔ s.ph = .idle ∨ s.resetIn = none ∧ advance c s = .hold := by
  simp [halted]

/-- Every move of a command that has not come to a halt leaves fewer moves to come. -/
theorem movesLeft_tick (hbusy : halted c s = false) (h : tick c s = .next t) : movesLeft c t < movesLeft c s := by
  rw [Bool.eq_false_iff, Ne, halted_iff] at hbusy
  cases hreset : s.resetIn with
  | none =>
    obtain ⟨hr, -⟩ | ⟨-, u, hu, rfl⟩ | ⟨-, hhold, -⟩ := tick_cases h
    · simp [hreset] at hr
    · have hu' : u.resetIn = none := (advance_rowFrame hu).resetIn.trans hreset
      rw [passTime_of_noReset hu']
      simpa [movesLeft, hu', hreset] using rowsLeft_advance hu
    · exact absurd (.inr ⟨hreset, hhold⟩) hbusy
  | some n =>
    have pos (hr : s.resetIn ≠ some 0) : n ≠ 0 := by rintro rfl; exact hr hreset
    obtain ⟨-, rfl⟩ | ⟨hr, u, hu, rfl⟩ | ⟨hr, -, rfl⟩ := tick_cases h
    · simp [movesLeft, rowsLeft, hreset, State.reset]
    · have hu' : u.resetIn = some n := (advance_rowFrame hu).resetIn.trans hreset
      have hn := pos hr
      simp only [movesLeft, State.passTime_resetIn, hu', hreset, Option.map_some]; omega
    · have hn := pos hr
      simp only [movesLeft, State.passTime_resetIn, hreset, Option.map_some]; omega

/-- A command with no move to come has come to a halt. -/
theorem halted_of_movesLeft (h : movesLeft c s = 0) : halted c s = true := by
  refine halted_iff.2 (.inl ?_)
  have hi := s.i.isLt
  unfold movesLeft at h
  split at h
  · cases hp : s.ph
    case idle => rfl
    all_goals simp only [rowsLeft, hp] at h; omega
  · cases h

/-- A run that is allowed the moves to come ends in a halt. -/
theorem halted_of_run {n : Nat} (hn : movesLeft c s ≤ n) (h : run n c s = .next t) : halted c t = true := by
  induction n generalizing s with
  | zero =>
    cases h
    exact halted_of_movesLeft (Nat.le_zero.1 hn)
  | succ n ih =>
    unfold run at h
    split at h
    · next hhalted => cases h; exact hhalted
    · next hbusy =>
      split at h
      · next u hu =>
        have hless := movesLeft_tick (by simpa using hbusy) hu
        exact ih (by omega) h
      · cases h
      · cases h

theorem elementsOf_lt (c : Cmd) (cw : CmdWord) : elementsOf c cw < 2 ^ 16 := by
  cases c with
  | access a => exact elemCount_lt a cw
  | init | illegal => exact Nat.two_pow_pos 16

/-- A run's bound is enough for every command, and for a reset that is coming (log 15). -/
theorem movesLeft_le_moveBound (c : Cmd) (s : State) : movesLeft c s ≤ moveBound s := by
  have hcount := elementsOf_lt c s.cur
  have hai := s.ai.isLt
  unfold movesLeft moveBound Config.maxMoves
  split
  · unfold rowsLeft
    split <;> omega
  · next n hn => simp only [hn, Option.getD_some]; omega

/-- ACCEPT lets a coming reset come no later. -/
theorem moveBound_accept (cw : CmdWord) (s : State) : moveBound (accept cw s) ≤ moveBound s := by
  simp only [moveBound, accept_resetIn]
  cases s.resetIn with
  | none => exact le_rfl
  | some n => simp

/-! ### A step -/

/-- Idle, or in a wait that no reset will end. -/
def AtRest (s : State) : Prop := halted (cmdOf (decodeCmd s.cur)) s = true

/-- The run of the command in CUR comes to rest. -/
theorem atRest_of_run {n : Nat} (hs : KeptInFlight.Running Inv c s) (hn : movesLeft c s ≤ n) (h : run n c s = .next t) :
    AtRest t := by
  have hhalted := halted_of_run hn h
  obtain ⟨-, hidle | rfl⟩ := run_keeps (fun _ _ hu hut => keptInFlight_inv.of_tick hu hut) hs h
  · exact halted_iff.2 (.inl hidle)
  · exact hhalted

/-- A command word that has been fetched, on an idle CORE or as the command in flight, runs until the CORE rests. -/
theorem atRest_of_exec {cw : CmdWord} (hs : Inv s) (hcw : s.ph = .idle ∨ cw = s.cur)
    (h : exec (decodeCmd cw) s = .next t) : AtRest t := by
  rw [exec_command (commandWord_decodeCmd cw)] at h
  obtain ⟨hidle, h⟩ | ⟨-, rfl, h⟩ | ⟨hbusy, hne, -⟩ := execute_cases h
  · exact atRest_of_run ⟨inv_accept cw hs hidle, .inr rfl⟩
      ((movesLeft_le_moveBound ..).trans (moveBound_accept cw s)) h
  · exact atRest_of_run ⟨hs, .inr rfl⟩ (movesLeft_le_moveBound ..) h
  · exact absurd (hcw.resolve_left hbusy).symm hne

/-- A step that gives no byte by hand ends at rest. -/
theorem atRest_of_step (hs : Inv s) (hw : s.wire = []) (h : step s = .next t) : AtRest t := by
  obtain ⟨hoffer, hflight, -, hreset, -⟩ := stepRunsTheDecodedInstruction
  by_cases hr : s.resetIn = some 0
  · cases (hreset s hw hr).symm.trans h
    exact halted_iff.2 (.inl rfl)
  · by_cases hidle : s.ph = .idle
    · cases hq : s.cmdIn with
      | nil =>
        have hwait : step s = .next s.passTime := by simp [step, nextInstr, quietMove, hw, hr, hidle, hq]
        cases hwait.symm.trans h
        exact halted_iff.2 (.inl hidle)
      | cons cw rest =>
        rw [hoffer s cw rest hw hr hidle hq] at h
        exact atRest_of_exec (keptInFlight_inv.fetchWord s rest hs) (.inl hidle) h
    · rw [hflight s hw hr hidle] at h
      exact atRest_of_exec hs (.inr rfl) h

/-- A wait that no reset will end lasts (R223). -/
theorem step_of_wait (hw : s.wire = []) (hreset : s.resetIn = none) (hidle : s.ph ≠ .idle) (h : AtRest s) :
    step s = .next s := by
  have hflight : step s = exec (decodeCmd s.cur) s :=
    stepRunsTheDecodedInstruction.2.1 s hw (by simp [hreset]) hidle
  rw [hflight, exec_command (commandWord_decodeCmd s.cur), execute_resume hidle rfl, run_halted h]

/-- No move of a CORE puts a byte on the wire (log 10). -/
theorem keptInFlight_noHand : KeptInFlight fun s => s.wire = [] where
  hand _ _ _ hw hs := absurd hs hw
  fetchWord _ _ hs := hs
  accept _ _ _ hs := hs
  advance _ _ hs h := (advance_rowFrame h).wire.trans hs
  wait _ hs := hs
  reset _ hs := hs

end

/-- Settles O28: the step ends at rest, and the FSM's waits are those for an agent. -/
theorem commandsEndOrWaitForAnAgent : Obligations.CommandsEndOrWaitForAnAgent := by
  unfold Obligations.CommandsEndOrWaitForAnAgent
  intro s t hs hw h
  have hrest := atRest_of_step hs hw h
  obtain hidle | ⟨hreset, hhold⟩ := halted_iff.1 hrest
  · exact .inl hidle
  · by_cases hidle : t.ph = .idle
    · exact .inl hidle
    · have hline := (stepKeepsTheInvariant s t hs h).line
      exact .inr ⟨waitsForAgent_of_hold hidle hline hhold, hreset,
        step_of_wait (keptInFlight_noHand.of_step hw h) hreset hidle hrest⟩

end Sys2Proof.Machine
end

section
/-! The bus cost of a command (R228), O38: each procedure of R107 to R118 counted by its transfers and its chip-select
edges. -/

namespace Sys2Proof.Machine

open Sys2Proof Sys2Proof.Safety

/-! ### What an operation costs -/

/-- From s to v, with the same command and the line as it was, the trace has this many more transfers and edges. -/
structure Costs (transfers edges : Nat) (s v : State) : Prop extends SameCommand s v where
  line : v.csAct = s.csAct := by simp
  transfers : v.trace.countP isTransfer = s.trace.countP isTransfer + transfers := by simp [isTransfer]
  edges : v.trace.countP isEdge = s.trace.countP isEdge + edges := by simp [isEdge]

section

variable {a : Access} {cw : CmdWord} {s u v : State} {t r : Byte} {e : Data} {m n m' n' : Nat}

theorem Costs.refl (s : State) : Costs 0 0 s s := {}

theorem Costs.trans (h : Costs m n s u) (h' : Costs m' n' u v) : Costs (m + m') (n + n') s v where
  toSameCommand := h.toSameCommand.trans h'.toSameCommand
  line := h'.line.trans h.line
  transfers := by rw [h'.transfers, h.transfers, Nat.add_assoc]
  edges := by rw [h'.edges, h.edges, Nat.add_assoc]

/-- The same transfers, counted another way. -/
theorem Costs.of_eq (h : Costs m n s v) (hm : m = m') : Costs m' n s v := hm ▸ h

theorem costs_sendByte (h : sendByte t s = some v) : Costs 1 0 s v := by
  rw [sendByte_frame h]
  exact {}

theorem costs_recvByte (h : recvByte t s = some (r, v)) : Costs 1 0 s v := by
  rw [recvByte_frame h]
  exact {}

theorem costs_takeElement (h : takeElement s = some (e, v)) : Costs 0 0 s v := by
  obtain ⟨rest, -, rfl⟩ := takeElement_cases h
  exact {}

theorem costs_giveElement (h : giveElement e s = some v) : Costs 0 0 s v := by
  obtain ⟨r, -, rfl⟩ := giveElement_cases h
  exact {}

theorem costs_checkFrame (a : Access) (t : Byte) (s : State) : Costs 0 0 s (checkFrame a t s) := {}

theorem costs_sendBytes {bs : List Byte} (h : sendBytes bs s = some v) : Costs bs.length 0 s v := by
  induction bs generalizing s with
  | nil => cases h; exact .refl _
  | cons b bs ih =>
    obtain ⟨u, hu, h⟩ := Option.bind_eq_some_iff.1 h
    exact ((costs_sendByte hu).trans (ih h)).of_eq (Nat.add_comm ..)

theorem costs_recvElement {i : Nat} {acc x : Data} (h : recvElement i acc s n = some (x, v)) : Costs n 0 s v := by
  induction n generalizing s i acc with
  | zero => cases h; exact .refl _
  | succ n ih =>
    obtain ⟨⟨r, u⟩, hu, h⟩ := Option.bind_eq_some_iff.1 h
    exact ((costs_recvByte hu).trans (ih h)).of_eq (Nat.add_comm ..)

/-- SEL is one edge (R100). -/
theorem csAssert_counts (hcs : s.csAct = false) :
    (csAssert s).trace.countP isTransfer = s.trace.countP isTransfer
      ∧ (csAssert s).trace.countP isEdge = s.trace.countP isEdge + 1 := by
  simp [hcs, isTransfer, isEdge]

/-- DESEL is one edge (R101). -/
theorem csDeassert_counts (hcs : s.csAct = true) :
    (csDeassert s).trace.countP isTransfer = s.trace.countP isTransfer
      ∧ (csDeassert s).trace.countP isEdge = s.trace.countP isEdge + 1 := by
  simp [hcs, isTransfer, isEdge]

/-! ### The procedures of a command (R107 to R118) -/

/-- The elements of a write cost E transfers each. -/
theorem costs_writeElements (h : writeElements a s n = some v) : Costs (n * elemBytes a) 0 s v := by
  induction n generalizing s with
  | zero => cases h; exact (Costs.refl _).of_eq (Nat.zero_mul _).symm
  | succ n ih =>
    obtain ⟨⟨e, u₁⟩, hload, h⟩ := Option.bind_eq_some_iff.1 h
    obtain ⟨u₂, hsend, h⟩ := Option.bind_eq_some_iff.1 h
    have hload : Costs 0 0 s u₁ := by
      split at hload
      · cases hload; exact .refl s
      · exact costs_takeElement hload
    refine ((hload.trans (costs_sendBytes hsend)).trans (ih h)).of_eq ?_
    rw [length_unpackLE, Nat.succ_mul]
    omega

theorem costs_deliver {x : Data} (h : deliver a x s = some v) : Costs 0 0 s v := by
  unfold deliver at h
  split at h
  · cases h; exact {}
  · exact costs_giveElement h

/-- The elements of a read cost E transfers each. -/
theorem costs_readElements (h : readElements a s n = some v) : Costs (n * elemBytes a) 0 s v := by
  induction n generalizing s with
  | zero => cases h; exact (Costs.refl _).of_eq (Nat.zero_mul _).symm
  | succ n ih =>
    obtain ⟨⟨e, u₁⟩, hrecv, h⟩ := Option.bind_eq_some_iff.1 h
    obtain ⟨u₂, hgive, h⟩ := Option.bind_eq_some_iff.1 h
    refine ((costs_recvElement hrecv).trans (costs_deliver hgive)).trans (ih h) |>.of_eq ?_
    rw [Nat.succ_mul]
    omega

/-- The data phase costs NBYTES transfers (R115, R118). -/
theorem costs_dataPhase (h : dataPhase a s = some v) : Costs (byteCount a s.cur) 0 s v := by
  unfold dataPhase at h
  split at h
  · exact costs_readElements h
  · exact costs_writeElements h

/-- SET_MODE on an asserted line costs nothing on a hit, and two transfers and two edges on a miss (R107). -/
theorem costs_setMode {b : Byte} (hcs : s.csAct = true) (h : setMode b s = some v) :
    Costs (if s.mcV = true ∧ s.mcVal = b then 0 else 2) (if s.mcV = true ∧ s.mcVal = b then 0 else 2) s v := by
  unfold setMode at h
  split at h
  · next hit => cases h; rw [if_pos hit]; exact .refl s
  · next hmiss =>
    rw [if_neg hmiss]
    obtain ⟨w, hsend, rfl⟩ := Option.map_eq_some_iff.1 h
    rw [csAssert_of_asserted hcs] at hsend
    have hsent : Costs 2 0 s w := costs_sendBytes hsend
    have hline : w.csAct = true := hsent.line.trans hcs
    have hreselect : Costs 0 2 w (csAssert (csDeassert { w with mcV := true, mcVal := b })) :=
      { line := by simp [hline]
        transfers := by simp [hline, isTransfer]
        edges := by simp [hline, List.countP_cons, isEdge] }
    exact hsent.trans hreselect

/-- The head of the data frame costs the direction byte, if there is one, and ABYTES transfers (R110 to R112). -/
theorem costs_sendHead (h : sendHead a s = some v) :
    Costs ((if usesDir a s.dirOpcodeMulti then 1 else 0) + addrBytes s.cfgAddr3) 0 s v := by
  obtain ⟨u, hu, h⟩ := Option.bind_eq_some_iff.1 h
  have hdir : Costs (if usesDir a s.dirOpcodeMulti then 1 else 0) 0 s u := by
    split at hu
    · next hd => exact ((costs_checkFrame ..).trans (costs_sendByte hu)).of_eq (by rw [if_pos hd])
    · next hd => cases hu; exact (costs_checkFrame ..).of_eq (by rw [if_neg hd])
  have haddr := costs_sendBytes h
  rw [length_addrFrame, hdir.cfgAddr3] at haddr
  exact hdir.trans haddr

/-- TRANSACT, on a deasserted line, also closes the two edges of its last frame (R118, R228). -/
theorem costs_transact (hcs : s.csAct = false) (h : transact a s = some v) :
    Costs
      ((if s.mcV = true ∧ s.mcVal = s.m then 0 else 2) + (if usesDir a s.dirOpcodeMulti then 1 else 0)
        + addrBytes s.cfgAddr3 + byteCount a s.cur)
      (if s.mcV = true ∧ s.mcVal = s.m then 2 else 4) s v := by
  obtain ⟨u₁, hmode, h⟩ := Option.bind_eq_some_iff.1 h
  obtain ⟨u₂, hdir, h⟩ := Option.bind_eq_some_iff.1 h
  obtain ⟨u₃, haddr, h⟩ := Option.bind_eq_some_iff.1 h
  obtain ⟨w, hdata, rfl⟩ := Option.map_eq_some_iff.1 h
  have hmode := costs_setMode (csAssert_csAct s) hmode
  rw [csAssert_mcV, csAssert_mcVal] at hmode
  have hsel : SameCommand s (csAssert s) := {}
  have hsame := hsel.trans hmode.toSameCommand
  -- The head as TRANSACT writes it, of the command's own address and direction.
  have hhead : sendHead a u₁ = some u₃ := by
    have hcur : u₁.curAddr = s.curAddr := congrArg cwAddr hsame.cur
    rw [sendHead, hsame.dirOpcodeMulti, hsame.cfgAddr3, hcur]
    exact Option.bind_eq_some_iff.2 ⟨u₂, hdir, haddr⟩
  have hhead := costs_sendHead hhead
  have hdata := costs_dataPhase hdata
  have hinside := (hmode.trans hhead).trans hdata
  rw [hhead.cur, hsame.cur, hsame.dirOpcodeMulti, hsame.cfgAddr3] at hinside
  have hline : w.csAct = true := hinside.line.trans (csAssert_csAct s)
  have hdesel : SameCommand w (csDeassert w) := {}
  have hopen := csAssert_counts hcs
  have hclose := csDeassert_counts hline
  refine ⟨hsel.trans (hinside.toSameCommand.trans hdesel), by simp [hcs], ?_, ?_⟩
  · rw [hclose.1, hinside.transfers, hopen.1]
    omega
  · rw [hclose.2, hinside.edges, hopen.2]
    split_ifs <;> omega

/-! ### The whole command (R228) -/

/-- An admitted command is TRANSACT and the response OK (R119). -/
theorem procedure_of_admitted (hlegal : legal cw = true) (hadm : Admitted a cw s) :
    procedure (.access a) (accept cw s) =
      (transact a (started a cw s)).bind fun w => respondWith .ok w.rspRd w := by
  have hrange : ¬ (s.rangeCheck = true ∧ inRange a cw s.cfgCapKbit.toNat = false) := fun h => by
    simp [hadm.range h.1] at h
  have hbytes := hadm.moves.ne'
  simp [procedure, hlegal, hadm.init, hbytes, hrange, started]

/-- A started command finds its mode in the cache exactly where the cache does not miss (R107). -/
theorem started_hit :
    (started a cw s).mcV = true ∧ (started a cw s).mcVal = (started a cw s).m ↔ ¬ cacheMiss a s = true := by
  rw [Bool.not_eq_true, cacheMiss_eq_false]
  rfl

/-- A wait for an agent is not the end of a command (R223). -/
theorem ph_ne_idle_of_waitsForAgent (h : waitsForAgent s) : s.ph ≠ .idle := by
  intro hp
  obtain ⟨-, hreq, -⟩ | ⟨-, hready, -⟩ | ⟨-, hvalid, -⟩ | ⟨hvalid, -⟩ := h
  · simp [xferReq, xferTx, hp] at hreq
  · cases hf : s.flight <;> simp [wdReady, hp, hf] at hready
  · simp [rdValid, hp] at hvalid
  · simp [rspValid, hp] at hvalid

/-- A command that ends idle has gone through its procedure, event for event (R119, R120). -/
theorem procedure_of_exec {i : Instr} (hcw : commandWord i = some cw) (hwf : wellFormed i = true) (hs : Willing s)
    (h : exec i s = .next v) (hidle : v.ph = .idle) :
    ∃ u, procedure (cmdOf i) (accept cw s) = some u ∧ v.trace = u.trace := by
  cases hproc : procedure (cmdOf i) (accept cw s) with
  | none =>
    obtain ⟨t, ht, hwait⟩ := phaseFsmWaitsWhereExecuteWaits i cw s hwf hcw hs.idle hs.line hs.noReset hproc
    cases h.symm.trans ht
    exact absurd hidle (ph_ne_idle_of_waitsForAgent hwait)
  | some u =>
    obtain ⟨t, ht, hsame⟩ := phaseFsmRealisesExecute i cw s u hwf hcw hs.idle hs.line hs.noReset hproc
    cases h.symm.trans ht
    exact ⟨u, rfl, (congrArg State.trace hsame :)⟩

/-- The cost of an admitted command that completes (R228). -/
theorem cost_of_admitted {i : Instr} (ha : accessOf i = some a) (hcw : commandWord i = some cw)
    (hwf : wellFormed i = true) (hs : Willing s) (hadm : Admitted a cw s) (h : exec i s = .next v)
    (hidle : v.ph = .idle) :
    v.trace.countP isTransfer = s.trace.countP isTransfer + (openingTransfers a s + byteCount a cw)
      ∧ v.trace.countP isEdge = s.trace.countP isEdge + (if cacheMiss a s then 4 else 2) := by
  obtain ⟨u, hproc, htrace⟩ := procedure_of_exec hcw hwf hs h hidle
  rw [cmdOf_eq_access.2 ha, procedure_of_admitted (legal_of_access ha hcw) hadm] at hproc
  obtain ⟨w, hw, hrsp⟩ := Option.bind_eq_some_iff.1 hproc
  have hcost := costs_transact (by exact hs.line) hw
  obtain ⟨r, -, rfl⟩ := giveResponse_cases hrsp
  have hsilent : (started a cw s).trace.countP isTransfer = s.trace.countP isTransfer
      ∧ (started a cw s).trace.countP isEdge = s.trace.countP isEdge := by
    simp [started, isTransfer, isEdge]
  have htransfers := hcost.transfers
  have hedges := hcost.edges
  simp only [started_hit, ite_not, hsilent] at htransfers hedges
  rw [htrace, openingTransfers]
  simpa [isTransfer, isEdge] using ⟨htransfers, hedges⟩

/-- The events of a command that ends in CHECK (R228). -/
theorem cost_of_checked {i : Instr} (hcw : commandWord i = some cw) (hs : Willing s)
    (hnot : ∀ a, accessOf i = some a → ¬ Admitted a cw s) (h : exec i s = .next v) :
    ∃ st, v.trace = s.trace ++ [.accept cw, .rsp st 0] := by
  cases hv : verdict (cmdOf i) (accept cw s) with
  | respond st =>
    rw [exec_of_verdict_respond hcw hs.idle hs.noReset hs.takesRsp hv] at h
    cases h
    exact ⟨st, rfl⟩
  | doInit =>
    rw [exec_of_verdict_doInit hcw hs.idle hs.noReset hs.takesRsp hv, doInit_of_deasserted (by exact hs.line)] at h
    cases h
    exact ⟨.ok, by simp⟩
  | transact a =>
    obtain ⟨hc, hinit, hmoves, hrange, -⟩ := verdict_eq_transact hv
    exact absurd ⟨hinit, hmoves, hrange⟩ (hnot a (cmdOf_eq_access.1 hc))

end

/-- Settles O38: the procedure's transfers and edges where CHECK lets the command start, and none where it does not. -/
theorem busCostOfEachCommand : Obligations.BusCostOfEachCommand := by
  unfold Obligations.BusCostOfEachCommand
  intro i cw s t hcw hwf hs h hidle
  refine ⟨fun a ha hadm => ?_, fun hnot => ?_⟩
  · simpa only [openingTransfers, Nat.add_assoc] using cost_of_admitted ha hcw hwf hs hadm h hidle
  · obtain ⟨st, htrace⟩ := cost_of_checked hcw hs hnot h
    rw [htrace]
    simp [isTransfer, isEdge]

end Sys2Proof.Machine
end
